-- ==== Sys2Proof/Word.lean ====
section
/-! DEFINITION. The word types of PPRT (R10, R11): a register is 32 bits wide, a pixel-buffer cell and a
colour 16, a byte of storage or of the panel wire 8. -/

namespace Sys2Proof

/-- A byte of PRAM, of PBUF, of the glyph bitmap or of the panel wire. -/
abbrev Byte := BitVec 8

/-- A 16-bit field: a half of an argument register, a buffer dimension, a pixel word on the panel wire. -/
abbrev Half := BitVec 16

/-- A host-visible register (R10). -/
abbrev Word := BitVec 32

/-- A packed RGB565 colour (R10, R18): red in bits 15:11, green in bits 10:5, blue in bits 4:0. -/
abbrev Color := BitVec 16

end Sys2Proof
end

