-- ==== Sys2Proof/Config.lean ====
section
/-! DEFINITION. The implementation parameters of R9 as a record that the state holds, so that every statement is about
any of them, with their defaults for reset; each OPEN one is there a constant without a body. At the end stand the free
values: what the spec leaves unspecified, as constants without a body, so that no proof can see what they are. -/

namespace Sys2Proof

/-- One glyph entry (R101). `ofsX` and `ofsY` are two's-complement bytes (−128 .. 127). -/
structure Glyph where
  bitmapIndex : Nat
  advW : BitVec 16
  boxW : BitVec 8
  boxH : BitVec 8
  ofsX : BitVec 8
  ofsY : BitVec 8
  deriving DecidableEq, Repr, Inhabited

/-- The Glyph Store `FONT` (R101): the line height, entries 0 .. 95 (code point `c` is entry `c − 31`; entry 0 is
never read) and the packed bitmap bytes. -/
structure Font where
  lineHeight : BitVec 8
  glyphs : Vector Glyph 96
  bitmap : List (BitVec 8)
  deriving DecidableEq, Repr, Inhabited

/-- The parameters of R9 but for `FONT`, which stands beside them in the state: what one PPRT is built with. -/
structure Params where
  /-- `PORTRAIT_W`, `PORTRAIT_H`. -/
  portraitW : Half
  portraitH : Half
  /-- `LANDSCAPE_W`, `LANDSCAPE_H`. -/
  landscapeW : Half
  landscapeH : Half
  /-- `MAX_CELLS`: the capacity of the pixel buffer, in cells (decision D26). -/
  maxCells : Nat
  /-- `PRAM_BYTES`: the size of the parameter RAM (decision D60). -/
  pramBytes : Nat
  /-- `BASE` in units of its alignment: PPRT's window is the `window`-th 512 KiB of the host's address space (R42). -/
  window : Nat
  /-- `LINE_GAP`: what a newline adds to the font height. -/
  lineGap : Nat
  /-- `PH_ADVANCE`: the advance of the placeholder glyph, in pixels. -/
  phAdvance : Half
  /-- `PLACEHOLDER` (R103): row 0 at the top, the leftmost cell the most significant bit. -/
  placeholder : Vector (BitVec 12) 16
  /-- `TRANSPARENT`: the background colour that paints nothing. -/
  transparent : Color
  /-- The panel's op-codes (R110). -/
  opSwreset : Byte
  opSlpin : Byte
  opSlpout : Byte
  opGamset : Byte
  opDispoff : Byte
  opDispon : Byte
  opCaset : Byte
  opPaset : Byte
  opRamwr : Byte
  opMadctl : Byte
  opColmod : Byte
  opFrmctr : Byte
  /-- `MADCTL_PORTRAIT`, `MADCTL_LANDSCAPE` (R110). -/
  madctlPortrait : Byte
  madctlLandscape : Byte
  /-- `GAMMA_PARAMS`, `COLMOD_PARAMS`, `FRMCTR_PARAMS` (R110). -/
  gammaParams : List Byte
  colmodParams : List Byte
  frmctrParams : List Byte
  /-- The delays, in milliseconds. -/
  tRstLow : Nat
  tRstHigh : Nat
  tSwreset : Nat
  tSlpout : Nat
  tSlpin : Nat
  /-- `F_CLK`: the PPRT clock in Hz. -/
  fClk : Nat
  /-- `BL_MAX`: the backlight's full-scale level. -/
  blMax : Half
  /-- `BL_PERIOD`: the backlight's PWM period, in clock cycles. -/
  blPeriod : Nat
  /-- `T_MODESW`: the cost of one bus-width switch, in clock cycles. -/
  tModesw : Nat
  deriving DecidableEq, Repr

/-- `BASE`, the host address of the window (R9, R42). -/
def Params.base (p : Params) : Nat := p.window * 0x80000

/-- The bounds that R9 and R42 set for the parameters. That the full-scale level is not 0 is the model's reading (log 10):
R114 says that the backlight is never on at level 0. -/
structure Params.Ok (p : Params) : Prop where
  maxCells : p.maxCells ≤ 0x20000
  pramBytes : p.pramBytes ≤ 0x3F000
  tRstLow : 10 ≤ p.tRstLow
  tRstHigh : 10 ≤ p.tRstHigh
  tSwreset : 100 ≤ p.tSwreset
  tSlpout : 120 ≤ p.tSlpout
  blMax : p.blMax ≠ 0
  blPeriod : 1 ≤ p.blPeriod

namespace Config

/-! ### The OPEN parameters (R9) -/

/-- `FONT`: OPEN (R9, R101); the value of the glyph ROM at reset. -/
opaque font : Font
/-- `BASE`: OPEN; which 512 KiB of the host's address space hold the window. -/
opaque window : Nat
/-- `F_CLK`: OPEN. -/
opaque fClk : Nat
/-- `BL_PERIOD` less 1: OPEN, and `BL_PERIOD` is at least 1. -/
opaque blPeriodLess1 : Nat
/-- `T_MODESW`: OPEN. -/
opaque tModesw : Nat

/-- The parameters of the PPRT of `State.reset`: each at its default where R9 gives one. No statement is about these
values alone: a state may hold any. The panel bytes are from general knowledge (log 11). -/
def params : Params where
  portraitW := 240
  portraitH := 320
  landscapeW := 320
  landscapeH := 240
  maxCells := 76800
  pramBytes := 2048
  window := window
  lineGap := 4
  phAdvance := 14
  placeholder :=
    #v[0b111111111111, 0b100000000001, 0b100000000001, 0b100000000001,
       0b100011110001, 0b100100001001, 0b100000001001, 0b100000010001,
       0b100000100001, 0b100000100001, 0b100000000001, 0b100000100001,
       0b100000000001, 0b100000000001, 0b100000000001, 0b111111111111]
  transparent := 0xFFFF
  opSwreset := 0x01
  opSlpin := 0x10
  opSlpout := 0x11
  opGamset := 0x26
  opDispoff := 0x28
  opDispon := 0x29
  opCaset := 0x2A
  opPaset := 0x2B
  opRamwr := 0x2C
  opMadctl := 0x36
  opColmod := 0x3A
  opFrmctr := 0xB1
  madctlPortrait := 0x48
  madctlLandscape := 0x28
  gammaParams := [0x01]
  colmodParams := [0x55]
  frmctrParams := [0x00, 0x1B]
  tRstLow := 10
  tRstHigh := 10
  tSwreset := 100
  tSlpout := 120
  tSlpin := 5
  fClk := fClk
  blMax := 65535
  blPeriod := blPeriodLess1 + 1
  tModesw := tModesw

/-! ### Free values (93_implementation_defined.md) -/

/-- I2: what the PRAM byte at host-window offset `off` holds before anything wrote it, for the `draw`-th reset. -/
opaque freePramByte : (draw off : Nat) → Byte
/-- I1: what the PBUF byte at host-window offset `off` holds before anything wrote it, for the `draw`-th creation of a
buffer. -/
opaque freePbufByte : (draw off : Nat) → Byte
/-- What byte `k` of the glyph bitmap reads as past its end, in a font that is not well formed (I25). -/
opaque freeFontByte : (k : Nat) → Byte
/-- The level left on `MOSI` by the `n`-th word that failed or stalled: R109 and R130 state none. -/
opaque freeMosi : (n : Nat) → Bool
/-- The level of `SCK` inside the `n`-th word that failed or stalled, for a stalled one: R109 and R130 state none. -/
opaque freeSck : (n : Nat) → Bool

end Config

end Sys2Proof
end

