-- ==== Sys2Proof/Syntax.lean ====
section
/-! DEFINITION. The commands of PPRT, one constructor for each row of the opcode map (R64), with the operands of its
format (R62) as decoded values (R61): a coordinate or signed length is an `Int`, an unsigned field a `Nat`, a colour
its 16 bits, a flag a `Bool`. Operands stand in the order of R62, ARG by ARG and low field first. -/

namespace Sys2Proof

/-- The eight argument registers, or their snapshot (R21, R22). -/
structure Args where
  a0 : Word
  a1 : Word
  a2 : Word
  a3 : Word
  a4 : Word
  a5 : Word
  a6 : Word
  a7 : Word
  deriving DecidableEq, Repr

/-- The words of one command (R59): the `CMD` word and the argument words it goes with. -/
structure Code where
  cmd : Word
  args : Args
  deriving DecidableEq, Repr

/-- The 32 commands (R64). -/
inductive Instr where
  | nop
  | pack (r g b a : Nat)
  | packA (r g b a : Nat)
  | unpack (c : Color)
  | bufCreate (w h : Nat)
  | bufCreatePanel
  | bufDestroy
  | bufFill (c : Color)
  | pixel (x y : Int) (c : Color)
  | hline (x y w : Int) (c : Color)
  | hlineGrad (x y w : Int) (c0 c1 : Color)
  | line (x0 y0 x1 y1 : Int) (c : Color)
  | rect (x y w h : Int) (c : Color)
  | rectFill (x y w h : Int) (c : Color)
  | tri (x0 y0 x1 y1 x2 y2 : Int) (c : Color)
  | triFill (x0 y0 x1 y1 x2 y2 : Int) (c : Color)
  | triGrad (x0 y0 x1 y1 x2 y2 : Int) (c0 c1 c2 : Color)
  | circle (cx cy r : Int) (c : Color)
  | circleFill (cx cy r : Int) (c : Color)
  | poly (xs ys n : Nat) (c : Color)
  | polyFill
  | char (x y : Int) (code : Nat) (fg bg : Color)
  | text (x y : Int) (off len : Nat) (fg bg : Color)
  | textWidth (off len : Nat)
  | pInit (portrait : Bool) (sckdiv : Nat)
  | pDeinit
  | pOrient (portrait : Bool)
  | pSleep
  | pWake
  | pBright (level : Nat)
  | pBrightPct (pct : Nat)
  | pDraw (x y : Nat)
  deriving DecidableEq, Repr

end Sys2Proof
end

