-- ==== Sys2Proof/WellFormed.lean ====
section
/-! DEFINITION. When a command is well formed: every operand lies in the range its field type admits (R61), which is
also what the assembler checks (R68). -/

namespace Sys2Proof

/-- The range of an S16 field or of a coordinate of a point (R61). -/
def inS16 (i : Int) : Bool := decide (-32768 ≤ i) && decide (i ≤ 32767)

/-- The range of a U16 field (R61). -/
def inU16 (n : Nat) : Bool := decide (n < 65536)

/-- The range of a U8 field (R61). -/
def inU8 (n : Nat) : Bool := decide (n < 256)

/-- Every operand of the command is in the range of its field (R61, R62, R68). -/
def Instr.wf : Instr → Bool
  | .nop => true
  | .pack r g b a => inU8 r && inU8 g && inU8 b && inU8 a
  | .packA r g b a => inU8 r && inU8 g && inU8 b && inU8 a
  | .unpack _ => true
  | .bufCreate w h => inU16 w && inU16 h
  | .bufCreatePanel => true
  | .bufDestroy => true
  | .bufFill _ => true
  | .pixel x y _ => inS16 x && inS16 y
  | .hline x y w _ => inS16 x && inS16 y && inS16 w
  | .hlineGrad x y w _ _ => inS16 x && inS16 y && inS16 w
  | .line x0 y0 x1 y1 _ => inS16 x0 && inS16 y0 && inS16 x1 && inS16 y1
  | .rect x y w h _ => inS16 x && inS16 y && inS16 w && inS16 h
  | .rectFill x y w h _ => inS16 x && inS16 y && inS16 w && inS16 h
  | .tri x0 y0 x1 y1 x2 y2 _ => inS16 x0 && inS16 y0 && inS16 x1 && inS16 y1 && inS16 x2 && inS16 y2
  | .triFill x0 y0 x1 y1 x2 y2 _ => inS16 x0 && inS16 y0 && inS16 x1 && inS16 y1 && inS16 x2 && inS16 y2
  | .triGrad x0 y0 x1 y1 x2 y2 _ _ _ => inS16 x0 && inS16 y0 && inS16 x1 && inS16 y1 && inS16 x2 && inS16 y2
  | .circle cx cy r _ => inS16 cx && inS16 cy && inS16 r
  | .circleFill cx cy r _ => inS16 cx && inS16 cy && inS16 r
  | .poly xs ys n _ => inU16 xs && inU16 ys && inU16 n
  | .polyFill => true
  | .char x y code _ _ => inS16 x && inS16 y && inU8 code
  | .text x y off len _ _ => inS16 x && inS16 y && inU16 off && inU16 len
  | .textWidth off len => inU16 off && inU16 len
  | .pInit _ sckdiv => inU16 sckdiv
  | .pDeinit => true
  | .pOrient _ => true
  | .pSleep => true
  | .pWake => true
  | .pBright level => inU16 level
  | .pBrightPct pct => inU8 pct
  | .pDraw x y => inU16 x && inU16 y

end Sys2Proof
end

