-- ==== Sys2Proof/Decode.lean ====
section
/-! DEFINITION. The command decoder and encoder (R58 to R64). An instruction of PPRT is one `CMD` word, whose bits 7:0
choose the command, together with the argument words its format reads. -/

namespace Sys2Proof

/-! ### Fields of an argument word (R61) -/

/-- Bits 15:0. -/
def lo16 (w : Word) : Half := w.extractLsb' 0 16

/-- Bits 31:16. -/
def hi16 (w : Word) : Half := w.extractLsb' 16 16

/-- Byte `k` of a word, byte 0 the least significant (R11). -/
def byteOf (w : Word) (k : Nat) : Byte := w.extractLsb' (8 * k) 8

/-- S16 in the low half: `sext_16` (R12, R61). -/
def s16Lo (w : Word) : Int := (lo16 w).toInt

/-- S16 in the high half. -/
def s16Hi (w : Word) : Int := (hi16 w).toInt

/-- U16 in the low half: `zext_16`. -/
def u16Lo (w : Word) : Nat := (lo16 w).toNat

/-- U16 in the high half. -/
def u16Hi (w : Word) : Nat := (hi16 w).toNat

/-- U8 in byte `k`: `zext_8`. -/
def u8At (w : Word) (k : Nat) : Nat := (byteOf w k).toNat

/-- B in bit 0. -/
def flag0 (w : Word) : Bool := w.getLsbD 0

/-! ### The decoder (R64, R66) -/

/-- Why the decoder refuses: `CMD[7:0]` is not an assigned opcode (R66). -/
inductive DecodeError where
  | badOpcode (op : Byte)
  deriving DecidableEq, Repr

/-- The opcode field of a `CMD` word (R60); bits 31:8 are ignored. -/
def opField (cmd : Word) : Byte := cmd.extractLsb' 0 8

/-- The decoder: `CMD[7:0]` chooses the row of R64, whose format (R62) names the fields of the arguments. -/
def decode (c : Code) : Except DecodeError Instr :=
  match (opField c.cmd).toNat with
  | 0x00 => .ok .nop
  | 0x01 => .ok (.pack (u8At c.args.a0 0) (u8At c.args.a0 1) (u8At c.args.a0 2) (u8At c.args.a0 3))
  | 0x02 => .ok (.packA (u8At c.args.a0 0) (u8At c.args.a0 1) (u8At c.args.a0 2) (u8At c.args.a0 3))
  | 0x03 => .ok (.unpack (lo16 c.args.a0))
  | 0x10 => .ok (.bufCreate (u16Lo c.args.a0) (u16Hi c.args.a0))
  | 0x11 => .ok .bufCreatePanel
  | 0x12 => .ok .bufDestroy
  | 0x13 => .ok (.bufFill (lo16 c.args.a0))
  | 0x20 => .ok (.pixel (s16Lo c.args.a0) (s16Hi c.args.a0) (lo16 c.args.a1))
  | 0x21 => .ok (.hline (s16Lo c.args.a0) (s16Hi c.args.a0) (s16Lo c.args.a1) (lo16 c.args.a2))
  | 0x22 => .ok (.hlineGrad (s16Lo c.args.a0) (s16Hi c.args.a0) (s16Lo c.args.a1) (lo16 c.args.a2) (hi16 c.args.a2))
  | 0x23 => .ok (.line (s16Lo c.args.a0) (s16Hi c.args.a0) (s16Lo c.args.a1) (s16Hi c.args.a1) (lo16 c.args.a2))
  | 0x24 => .ok (.rect (s16Lo c.args.a0) (s16Hi c.args.a0) (s16Lo c.args.a1) (s16Hi c.args.a1) (lo16 c.args.a2))
  | 0x25 => .ok (.rectFill (s16Lo c.args.a0) (s16Hi c.args.a0) (s16Lo c.args.a1) (s16Hi c.args.a1) (lo16 c.args.a2))
  | 0x26 => .ok (.tri (s16Lo c.args.a0) (s16Hi c.args.a0) (s16Lo c.args.a1) (s16Hi c.args.a1)
      (s16Lo c.args.a2) (s16Hi c.args.a2) (lo16 c.args.a3))
  | 0x27 => .ok (.triFill (s16Lo c.args.a0) (s16Hi c.args.a0) (s16Lo c.args.a1) (s16Hi c.args.a1)
      (s16Lo c.args.a2) (s16Hi c.args.a2) (lo16 c.args.a3))
  | 0x28 => .ok (.triGrad (s16Lo c.args.a0) (s16Hi c.args.a0) (s16Lo c.args.a1) (s16Hi c.args.a1)
      (s16Lo c.args.a2) (s16Hi c.args.a2) (lo16 c.args.a3) (hi16 c.args.a3) (lo16 c.args.a4))
  | 0x29 => .ok (.circle (s16Lo c.args.a0) (s16Hi c.args.a0) (s16Lo c.args.a1) (lo16 c.args.a2))
  | 0x2A => .ok (.circleFill (s16Lo c.args.a0) (s16Hi c.args.a0) (s16Lo c.args.a1) (lo16 c.args.a2))
  | 0x2B => .ok (.poly (u16Lo c.args.a0) (u16Hi c.args.a0) (u16Lo c.args.a1) (lo16 c.args.a2))
  | 0x2C => .ok .polyFill
  | 0x30 => .ok (.char (s16Lo c.args.a0) (s16Hi c.args.a0) (u8At c.args.a1 0) (lo16 c.args.a2) (hi16 c.args.a2))
  | 0x31 => .ok (.text (s16Lo c.args.a0) (s16Hi c.args.a0) (u16Lo c.args.a1) (u16Hi c.args.a1)
      (lo16 c.args.a2) (hi16 c.args.a2))
  | 0x32 => .ok (.textWidth (u16Lo c.args.a1) (u16Hi c.args.a1))
  | 0x40 => .ok (.pInit (flag0 c.args.a0) (u16Lo c.args.a1))
  | 0x41 => .ok .pDeinit
  | 0x42 => .ok (.pOrient (flag0 c.args.a0))
  | 0x43 => .ok .pSleep
  | 0x44 => .ok .pWake
  | 0x45 => .ok (.pBright (u16Lo c.args.a0))
  | 0x46 => .ok (.pBrightPct (u8At c.args.a0 0))
  | 0x47 => .ok (.pDraw (u16Lo c.args.a0) (u16Hi c.args.a0))
  | _ => .error (.badOpcode (opField c.cmd))

/-! ### The encoder (R62, R64, R68) -/

/-- The opcode of a command (R64). -/
def opcode : Instr → Byte
  | .nop => 0x00
  | .pack .. => 0x01
  | .packA .. => 0x02
  | .unpack .. => 0x03
  | .bufCreate .. => 0x10
  | .bufCreatePanel => 0x11
  | .bufDestroy => 0x12
  | .bufFill .. => 0x13
  | .pixel .. => 0x20
  | .hline .. => 0x21
  | .hlineGrad .. => 0x22
  | .line .. => 0x23
  | .rect .. => 0x24
  | .rectFill .. => 0x25
  | .tri .. => 0x26
  | .triFill .. => 0x27
  | .triGrad .. => 0x28
  | .circle .. => 0x29
  | .circleFill .. => 0x2A
  | .poly .. => 0x2B
  | .polyFill => 0x2C
  | .char .. => 0x30
  | .text .. => 0x31
  | .textWidth .. => 0x32
  | .pInit .. => 0x40
  | .pDeinit => 0x41
  | .pOrient .. => 0x42
  | .pSleep => 0x43
  | .pWake => 0x44
  | .pBright .. => 0x45
  | .pBrightPct .. => 0x46
  | .pDraw .. => 0x47

/-- The `CMD` word of a command: its opcode, with the ignored bits 31:8 written 0 (R60). -/
def cmdWord (i : Instr) : Word := (0 : BitVec 24) ++ opcode i

/-- A word of two halves, `{hi, lo}` (R11). -/
def halves (lo hi : Half) : Word := hi ++ lo

/-- A word that holds one half, its unnamed bits 0 (R68). -/
def half (lo : Half) : Word := (0 : Half) ++ lo

/-- The 16-bit two's-complement pattern of an S16 operand (R68). -/
def s16 (i : Int) : Half := BitVec.ofInt 16 i

/-- The pattern of a U16 operand. -/
def u16 (n : Nat) : Half := BitVec.ofNat 16 n

/-- The pattern of a U8 operand. -/
def u8 (n : Nat) : Byte := BitVec.ofNat 8 n

/-- A point `P` (R61): x in the low half, y in the high half. -/
def point (x y : Int) : Word := halves (s16 x) (s16 y)

/-- Four byte lanes, lane 0 the lowest (format FRGBA). -/
def lanes (b0 b1 b2 b3 : Byte) : Word := b3 ++ b2 ++ b1 ++ b0

/-- The argument words a command's format uses, in increasing index, with unnamed bits 0 (R62, R68). -/
def argWords : Instr → List (Nat × Word)
  | .nop => []
  | .pack r g b a => [(0, lanes (u8 r) (u8 g) (u8 b) (u8 a))]
  | .packA r g b a => [(0, lanes (u8 r) (u8 g) (u8 b) (u8 a))]
  | .unpack c => [(0, half c)]
  | .bufCreate w h => [(0, halves (u16 w) (u16 h))]
  | .bufCreatePanel => []
  | .bufDestroy => []
  | .bufFill c => [(0, half c)]
  | .pixel x y c => [(0, point x y), (1, half c)]
  | .hline x y w c => [(0, point x y), (1, half (s16 w)), (2, half c)]
  | .hlineGrad x y w c0 c1 => [(0, point x y), (1, half (s16 w)), (2, halves c0 c1)]
  | .line x0 y0 x1 y1 c => [(0, point x0 y0), (1, point x1 y1), (2, half c)]
  | .rect x y w h c => [(0, point x y), (1, point w h), (2, half c)]
  | .rectFill x y w h c => [(0, point x y), (1, point w h), (2, half c)]
  | .tri x0 y0 x1 y1 x2 y2 c => [(0, point x0 y0), (1, point x1 y1), (2, point x2 y2), (3, half c)]
  | .triFill x0 y0 x1 y1 x2 y2 c => [(0, point x0 y0), (1, point x1 y1), (2, point x2 y2), (3, half c)]
  | .triGrad x0 y0 x1 y1 x2 y2 c0 c1 c2 =>
      [(0, point x0 y0), (1, point x1 y1), (2, point x2 y2), (3, halves c0 c1), (4, half c2)]
  | .circle cx cy r c => [(0, point cx cy), (1, half (s16 r)), (2, half c)]
  | .circleFill cx cy r c => [(0, point cx cy), (1, half (s16 r)), (2, half c)]
  | .poly xs ys n c => [(0, halves (u16 xs) (u16 ys)), (1, half (u16 n)), (2, half c)]
  | .polyFill => []
  | .char x y code fg bg => [(0, point x y), (1, lanes (u8 code) 0 0 0), (2, halves fg bg)]
  | .text x y off len fg bg => [(0, point x y), (1, halves (u16 off) (u16 len)), (2, halves fg bg)]
  | .textWidth off len => [(1, halves (u16 off) (u16 len))]
  | .pInit portrait sckdiv => [(0, (BitVec.ofBool portrait).setWidth 32), (1, half (u16 sckdiv))]
  | .pDeinit => []
  | .pOrient portrait => [(0, (BitVec.ofBool portrait).setWidth 32)]
  | .pSleep => []
  | .pWake => []
  | .pBright level => [(0, half (u16 level))]
  | .pBrightPct pct => [(0, lanes (u8 pct) 0 0 0)]
  | .pDraw x y => [(0, halves (u16 x) (u16 y))]

/-- All eight argument words 0. -/
def Args.zero : Args := ⟨0, 0, 0, 0, 0, 0, 0, 0⟩

/-- Argument register `i`; there are eight (R21). -/
def Args.get (a : Args) : Nat → Word
  | 0 => a.a0
  | 1 => a.a1
  | 2 => a.a2
  | 3 => a.a3
  | 4 => a.a4
  | 5 => a.a5
  | 6 => a.a6
  | 7 => a.a7
  | _ => 0

/-- Write argument register `i`; there are eight (R21). -/
def Args.set (a : Args) (i : Nat) (v : Word) : Args :=
  match i with
  | 0 => { a with a0 := v }
  | 1 => { a with a1 := v }
  | 2 => { a with a2 := v }
  | 3 => { a with a3 := v }
  | 4 => { a with a4 := v }
  | 5 => { a with a5 := v }
  | 6 => { a with a6 := v }
  | 7 => { a with a7 := v }
  | _ => a

/-- Write a list of argument words in order (the first step of an assembled command line, R68). -/
def Args.setAll (a : Args) (ws : List (Nat × Word)) : Args :=
  ws.foldl (fun a p => a.set p.1 p.2) a

/-- The words of a command: its `CMD` word and its arguments, those its format does not use 0 (R62, R64). -/
def encode (i : Instr) : Code := ⟨cmdWord i, Args.zero.setAll (argWords i)⟩

/-! ### The numbering of the opcode table's bits -/

/-- The words of an instruction whose bits are `w`: bits 31:0 are the `CMD` word, bits 63:32 `ARG0`, and so on. -/
def codeOfBits (w : Nat) : Code :=
  ⟨BitVec.ofNat 32 w,
   ⟨BitVec.ofNat 32 (w / 2 ^ 32), BitVec.ofNat 32 (w / 2 ^ 64), BitVec.ofNat 32 (w / 2 ^ 96),
    BitVec.ofNat 32 (w / 2 ^ 128), BitVec.ofNat 32 (w / 2 ^ 160), BitVec.ofNat 32 (w / 2 ^ 192),
    BitVec.ofNat 32 (w / 2 ^ 224), BitVec.ofNat 32 (w / 2 ^ 256)⟩⟩

/-- The instruction the decoder reads from the bits `w` of a row of `nbits` bits; every bit above them is 0. -/
def decodeTableWord (nbits w : Nat) : Option Instr :=
  (decode (codeOfBits (w % 2 ^ nbits))).toOption

end Sys2Proof
end

