-- ==== Sys2Proof/Machine/State.lean ====
section
/-! DEFINITION. The state of PPRT as plain data (10_state.md R19 to R40), what a step can answer, and the state after
reset. INVENTORY.md lists every field with its rule and reset value. -/

namespace Sys2Proof.Machine

/-- The error codes of `STATUS.ERR` (R125). Codes 9 to 15 are never produced. -/
inductive Err where
  | ok
  | alloc
  | noBuf
  | bus
  | unimpl
  | notInit
  | badOp
  | arg
  | bufExists
  deriving DecidableEq, Repr

/-- `INIT_PHASE` (R30): NONE, RESET, POST. -/
inductive InitPhase where
  | none
  | reset
  | post
  deriving DecidableEq, Repr

/-- What the panel-bus environment answers to one word (R130). -/
inductive BusOutcome where
  | ok
  | fail
  | stall
  deriving DecidableEq, Repr

/-- The events of the wire trace (R108). `width true` is `Width(16)`, `width false` is `Width(8)`. -/
inductive WireEvent where
  | cs (v : Bool)
  | dc (v : Bool)
  | rst (v : Bool)
  | width (wide : Bool)
  | w8 (b : Byte)
  | w16 (h : Half)
  | wait (ms : Nat)
  | bl (en : Bool) (level : Half)
  deriving DecidableEq, Repr

/-- One action of the engine inside a transport command: one line of the pseudocode of R111 to R124. The part of a
command that is still to run is a list of these (R24, R39). -/
inductive Act where
  /-- `INIT_PHASE <- p`. -/
  | phase (p : InitPhase)
  /-- `SCK_DIV <- d`. -/
  | sckDiv (d : Half)
  /-- `BL_EN <- en ; BL_LEVEL <- level ; emit BL(en, level)`, one step (R114). -/
  | backlight (en : Bool) (level : Half)
  /-- `EnsureCommandMode` (R111). -/
  | ensure8
  /-- `EnsurePixelMode` (R112). -/
  | ensure16
  | cs (v : Bool)
  | dc (v : Bool)
  | rst (v : Bool)
  | wait (ms : Nat)
  /-- Shift out one 8-bit word; the environment may fail or stall it (R130). -/
  | word8 (b : Byte)
  /-- Shift out one 16-bit word; the environment may fail or stall it (R130). -/
  | word16 (h : Half)
  /-- `PORTRAIT <- p`, with `PANEL_W` and `PANEL_H` (R115). That no host read falls between R115's two lines is the
  model's choice (log 13). -/
  | orient (p : Bool)
  /-- The last line of P_INIT: `INIT <- 1 ; ASLEEP <- 0 ; INIT_PHASE <- NONE` (R117). -/
  | initDone
  /-- The last line of P_DEINIT: `INIT <- 0 ; ASLEEP <- 0` (R118). -/
  | deinitDone
  /-- `ASLEEP <- v` (R120, R121). -/
  | asleep (v : Bool)
  deriving DecidableEq, Repr

/-- The command engine (R24, R39): `STATUS.BUSY = 0` exactly when it is idle (R25, R127). -/
inductive Engine where
  | idle
  /-- A command is accepted and its rule has not begun; `op` is `CMD[7:0]` (R58). -/
  | accepted (op : Byte)
  /-- A transport command is under way; `rest` is what is still to run, `isInit` says that it is P_INIT. -/
  | driving (isInit : Bool) (rest : List Act)
  /-- A word stalled: the command never completes, until reset (R130). -/
  | stalled
  deriving DecidableEq, Repr

/-- The width of a host access (R46). -/
inductive Width where
  | w8
  | w16
  | w32
  deriving DecidableEq, Repr

/-- A host access at a host address (R16, R42). -/
inductive Access where
  | read (w : Width) (addr : Nat)
  | write (w : Width) (addr : Nat) (v : Word)
  deriving DecidableEq, Repr

/-- What happens next, as the world outside the engine decides it (R19): a host access, a wait of the host for BUSY = 0
(R68), one action of the running command, the rest of the running command, or the platform's reset (R141). -/
inductive Input where
  | access (a : Access)
  | poll
  | tick
  | run
  | reset
  deriving DecidableEq, Repr

/-- The levels PPRT drives on the panel's serial pins (R38, R109). -/
structure Pins where
  csN : Bool
  dc : Bool
  rstN : Bool
  sck : Bool
  mosi : Bool
  deriving DecidableEq, Repr

/-- PRAM and PBUF bytes at their host-window offsets (R42): offsets strictly rising, one entry at most per offset. An
offset with no entry holds no value that anything wrote. -/
abbrev Mem := List Host.Cell

/-- Why a step can stop with a fault: never. PPRT has no traps (R133), every host access completes (R52), and every
command ends with a code in `STATUS.ERR` (R126) or leaves the engine stalled (R130), which is a state. -/
inductive Fault where
  deriving DecidableEq, Repr

/-- Why a step can refuse. -/
inductive Refusal where
  /-- Raised by `exec` for a command that has no meaning yet; safe. No command is left so. -/
  | notModelled (mnemonic : String)
  deriving DecidableEq, Repr

/-- The whole state of PPRT. -/
structure State where
  /-- `ARG0` .. `ARG7` (R21). -/
  args : Args
  /-- The argument snapshot `ARG[0..7]` (R22). -/
  snap : Args
  /-- `OPAQUE_S` (R22). -/
  opaqueS : Bool
  /-- `CTRL.GLYPH_OPAQUE` (R28). -/
  glyphOpaque : Bool
  /-- `RES0` (R23). -/
  res0 : Word
  /-- `RES1` (R23). -/
  res1 : Word
  /-- The running command (R24, R39). -/
  engine : Engine
  /-- `STATUS.BUF_VALID` (R25). -/
  bufValid : Bool
  /-- `BUF_W` (R29). -/
  bufW : Half
  /-- `BUF_H` (R29). -/
  bufH : Half
  /-- `STATUS.ERR` (R25, R125). -/
  err : Err
  /-- `STATUS.CMDOVF` (R25). -/
  cmdOvf : Bool
  /-- `STATUS.BUSYACC` (R25). -/
  busyAcc : Bool
  /-- `STATUS.BADACC` (R25). -/
  badAcc : Bool
  /-- `INIT` (R30). -/
  init : Bool
  /-- `INIT_PHASE` (R30). -/
  initPhase : InitPhase
  /-- `PORTRAIT` (R30). -/
  portrait : Bool
  /-- `PANEL_W` (R30). -/
  panelW : Half
  /-- `PANEL_H` (R30). -/
  panelH : Half
  /-- `BUS16` (R30). -/
  bus16 : Bool
  /-- `ASLEEP` (R30). -/
  asleep : Bool
  /-- `BL_EN` (R30). -/
  blEn : Bool
  /-- `BL_LEVEL` (R30). -/
  blLevel : Half
  /-- `SCK_DIV` (R30). -/
  sckDiv : Half
  /-- `MODESW_CNT` (R35). -/
  modeSwCnt : Word
  /-- The pin levels (R38). -/
  pins : Pins
  /-- The wire trace (R108), newest event first. -/
  wire : List WireEvent
  /-- PRAM and PBUF (R37, R42). -/
  mem : Mem
  /-- The model's own: numbers the unspecified contents of PRAM (R40). -/
  pramDraw : Nat
  /-- The model's own: numbers the unspecified contents of PB (R40, R77). -/
  pbDraw : Nat
  /-- The model's own: numbers the unstated pin levels of failed and stalled words. -/
  wordDraw : Nat
  /-- What this PPRT is built with: the parameters of R9 but `FONT`. No step changes them. -/
  params : Params
  /-- The glyph ROM `FONT` (R9, R37, R101). -/
  font : Font
  /-- The model's own: the schedule of what happens next, the nearest first. -/
  inputs : List Input
  /-- The model's own: the outcomes of the coming panel-bus words (R130); the empty list stands for `ok` always. -/
  bus : List BusOutcome
  /-- The model's own: what the host's reads have returned, newest first. -/
  readLog : List Word
  deriving DecidableEq, Repr

/-- What one step or one command answers. -/
abbrev Result := Host.Outcome State Fault Refusal

/-- The pins at their idle levels (R38). -/
def Pins.idle : Pins := ⟨true, true, true, false, false⟩

/-- The state after reset (R40). -/
def State.reset : State where
  args := Args.zero
  snap := Args.zero
  opaqueS := false
  glyphOpaque := false
  res0 := 0
  res1 := 0
  engine := .idle
  bufValid := false
  bufW := 0
  bufH := 0
  err := .ok
  cmdOvf := false
  busyAcc := false
  badAcc := false
  init := false
  initPhase := .none
  portrait := true
  panelW := Config.params.portraitW
  panelH := Config.params.portraitH
  bus16 := false
  asleep := false
  blEn := false
  blLevel := 0
  sckDiv := 0
  modeSwCnt := 0
  pins := Pins.idle
  wire := []
  mem := []
  pramDraw := 0
  pbDraw := 0
  wordDraw := 0
  params := Config.params
  font := Config.font
  inputs := []
  bus := []
  readLog := []

end Sys2Proof.Machine
end

