-- ==== Sys2Proof/Machine/Ops.lean ====
section
/-! DEFINITION. The named operations over memory, the pixel buffer, the pins and the wire trace, and how a command
completes: normally or by `fail` (R126, R127), or by a bus failure (R130). These stand where another machine takes an
exception; PPRT has no return from one (R134). -/

namespace Sys2Proof.Machine

/-! ### The memory list -/

/-- What the list holds for an offset, if anything wrote it. -/
def Mem.read? : Mem → Nat → Option Byte
  | [], _ => none
  | (b, v) :: m, a => if b = a then some v else Mem.read? m a

/-- Write one byte, keeping offsets strictly rising. -/
def Mem.write : Mem → Nat → Byte → Mem
  | [], a, v => [(a, v)]
  | (b, u) :: m, a, v =>
    if a < b then (a, v) :: (b, u) :: m
    else if a = b then (a, v) :: m
    else (b, u) :: Mem.write m a v

/-- The canonical form: offsets strictly rising. An unlisted offset holds no value, so no entry can repeat one. -/
def Mem.wf : Mem → Bool
  | [] => true
  | [_] => true
  | (a, _) :: (b, v) :: m => decide (a < b) && Mem.wf ((b, v) :: m)

/-! ### PRAM and PBUF (R42) -/

/-- The offset of PRAM byte 0. -/
def pramBase : Nat := 0x01000

/-- The offset of cell 0 of PBUF. -/
def pbufBase : Nat := 0x40000

/-- What an offset that nothing has written reads as: its free value (R40; items I1, I2). -/
def State.unlisted (s : State) (off : Nat) : Byte :=
  if off < pbufBase then Config.freePramByte s.pramDraw off else Config.freePbufByte s.pbDraw off

/-- The byte at a host-window offset of PRAM or PBUF. -/
def State.byteAt (s : State) (off : Nat) : Byte := (Mem.read? s.mem off).getD (s.unlisted off)

/-- Cell `i` of `PB`: its low byte at the even offset, its high byte at the odd one (R42, R44). -/
def State.cellAt (s : State) (i : Nat) : Half :=
  s.byteAt (pbufBase + 2 * i + 1) ++ s.byteAt (pbufBase + 2 * i)

/-- `PRAM8(a)` (R49). -/
def State.pram8 (s : State) (a : Nat) : Byte := s.byteAt (pramBase + a)

/-- `PRAM16(a)`, little-endian (R49). -/
def State.pram16 (s : State) (a : Nat) : Half := s.pram8 (a + 1) ++ s.pram8 a

/-- Write cell `i` of `PB`. -/
def Mem.writeCell (m : Mem) (i : Nat) (c : Color) : Mem :=
  Mem.write (Mem.write m (pbufBase + 2 * i) (c.extractLsb' 0 8)) (pbufBase + 2 * i + 1) (c.extractLsb' 8 8)

/-! ### Drawing (R16, R82) -/

/-- One `PutPixel` of a drawing rule: any integers x and y, and a colour (R82). -/
structure Pixel where
  x : Int
  y : Int
  c : Color
  deriving DecidableEq, Repr

/-- `PutPixel` into a buffer of `w` by `h` cells: clipped, in row-major order (R76, R82). -/
def Mem.putPixel (w h : Nat) (m : Mem) (p : Pixel) : Mem :=
  if 0 ≤ p.x ∧ p.x < w ∧ 0 ≤ p.y ∧ p.y < h then Mem.writeCell m (p.y.toNat * w + p.x.toNat) p.c else m

/-- Draw pixels in order into the live buffer. -/
def State.plot (s : State) (ps : List Pixel) : State :=
  { s with mem := ps.foldl (Mem.putPixel s.bufW.toNat s.bufH.toNat) s.mem }

/-- The entries of cells `i`, `i + 1`, .. (`n` of them), all of colour `c`. -/
def fillEntries (c : Color) : (n i : Nat) → Mem
  | 0, _ => []
  | n + 1, i =>
    (pbufBase + 2 * i, c.extractLsb' 0 8) :: (pbufBase + 2 * i + 1, c.extractLsb' 8 8) :: fillEntries c n (i + 1)

/-- `for i in 0 .. n − 1: PB[i] <- c` (R80), as one pass over the list. -/
def Mem.fill (m : Mem) (n : Nat) (c : Color) : Mem :=
  m.filter (fun e => e.1 < pbufBase) ++ fillEntries c n 0 ++ m.filter (fun e => pbufBase + 2 * n ≤ e.1)

/-- A new draw of unspecified values for the pixel buffer (R77): no cell is listed, and the draw has a new number. -/
def State.redrawPbuf (s : State) : State :=
  { s with mem := s.mem.filter (fun e => e.1 < pbufBase), pbDraw := s.pbDraw + 1 }

/-! ### The wire (R108, R109) -/

/-- The pin levels after an event: a pin event sets its pin, a word leaves its last bit on `MOSI` and `SCK` low, and the
others change none of them (R109). -/
def Pins.after (p : Pins) : WireEvent → Pins
  | .cs v => { p with csN := v }
  | .dc v => { p with dc := v }
  | .rst v => { p with rstN := v }
  | .w8 b => { p with sck := false, mosi := b.getLsbD 0 }
  | .w16 h => { p with sck := false, mosi := h.getLsbD 0 }
  | .width _ => p
  | .wait _ => p
  | .bl _ _ => p

/-- `Emit(e)` (R16, R108): append an event and drive its pins. -/
def State.emit (s : State) (e : WireEvent) : State :=
  { s with wire := e :: s.wire, pins := s.pins.after e }

/-- The bits one word puts on `MOSI`, in order (R45, R109): most significant bit first. -/
def mosiBits : WireEvent → List Bool
  | .w8 b => (List.range 8).map (fun k => b.getLsbD (7 - k))
  | .w16 h => (List.range 16).map (fun k => h.getLsbD (15 - k))
  | _ => []

/-! ### How a command completes -/

/-- Completion (R127): the code goes to `STATUS.ERR` and BUSY falls. `fail E_X` is completion with that code (R126). -/
def State.complete (s : State) (e : Err) : State := { s with err := e, engine := .idle }

/-- Completion with `E_OK` and a result in `RES0` (R127, R128). -/
def State.completeRes0 (s : State) (v : Word) : State := { s with err := .ok, engine := .idle, res0 := v }

/-- Completion with `E_OK` and results in `RES0` and `RES1` (R127, R128). -/
def State.completeRes01 (s : State) (v0 v1 : Word) : State :=
  { s with err := .ok, engine := .idle, res0 := v0, res1 := v1 }

/-- A bus failure (R130): `CS(1)`, and completion with `E_BUS`; P_INIT also takes `INIT_PHASE` back to NONE. The word
itself is not appended, and what it left on `MOSI` is a free value. That no host read falls between `CS(1)`,
`INIT_PHASE <- NONE` and the completion is the model's choice (log 13): R127 puts only ERR, RES and BUSY in one step. -/
def State.busFail (s : State) (isInit : Bool) : State :=
  let t : State :=
    { s with
      pins := { s.pins with mosi := Config.freeMosi s.wordDraw },
      wordDraw := s.wordDraw + 1,
      initPhase := if isInit then .none else s.initPhase }
  (t.emit (.cs true)).complete .bus

/-- A stalled word (R130): the engine never completes. `SCK` and `MOSI` stand at free values inside the word. -/
def State.busStall (s : State) : State :=
  { s with
    pins := { s.pins with sck := Config.freeSck s.wordDraw, mosi := Config.freeMosi s.wordDraw },
    wordDraw := s.wordDraw + 1,
    engine := .stalled }

/-! ### Acceptance of a command -/

/-- `STATUS.BUSY` (R25): 1 from acceptance to completion. -/
def State.busy (s : State) : Bool :=
  match s.engine with
  | .idle => false
  | .accepted _ => true
  | .driving _ _ => true
  | .stalled => true

/-- Acceptance (R22, R58): the snapshot, `OPAQUE_S` and BUSY, in one step. -/
def State.accept (s : State) (op : Byte) : State :=
  { s with snap := s.args, opaqueS := s.glyphOpaque, engine := .accepted op }

/-- The platform's reset (R40, R141): every piece of PPRT state takes its reset value, PRAM and PB are drawn anew, and
the parameters, the ROM and the world outside PPRT stay. -/
def State.powerOn (s : State) : State :=
  { State.reset with
    params := s.params
    panelW := s.params.portraitW
    panelH := s.params.portraitH
    font := s.font
    pramDraw := s.pramDraw + 1
    pbDraw := s.pbDraw + 1
    wordDraw := s.wordDraw
    inputs := s.inputs
    bus := s.bus
    readLog := s.readLog }

end Sys2Proof.Machine
end

