-- ==== Sys2Proof/Machine/Flags.lean ====
section
/-! DEFINITION. The status flags and the registers the host reads (10_state.md R25 to R36): each is a view of the state,
computed here and stored nowhere else. -/

namespace Sys2Proof.Machine

/-- The 4-bit code of `STATUS.ERR` (R125). -/
def Err.code : Err → BitVec 4
  | .ok => 0
  | .alloc => 1
  | .noBuf => 2
  | .bus => 3
  | .unimpl => 4
  | .notInit => 5
  | .badOp => 6
  | .arg => 7
  | .bufExists => 8

/-- One bit of a register. -/
def bit (b : Bool) : BitVec 1 := BitVec.ofBool b

/-- `ID` (R26). -/
def idWord : Word := 0x50500007

/-- `STATUS` (R25). -/
def State.statusWord (s : State) : Word :=
  (0 : BitVec 13) ++ bit s.badAcc ++ bit s.busyAcc ++ bit s.cmdOvf ++ (0 : BitVec 4) ++ s.err.code
    ++ (0 : BitVec 6) ++ bit s.bufValid ++ bit s.busy

/-- `CTRL` (R28). -/
def State.ctrlWord (s : State) : Word := (0 : BitVec 31) ++ bit s.glyphOpaque

/-- `BUF_INFO` (R29). -/
def State.bufInfo (s : State) : Word := s.bufH ++ s.bufW

/-- `TSTATE` (R32): 0 Uninitialized, 1 AwaitingReset, 2 CommandMode, 3 PixelMode, 4 Asleep. -/
def State.tstate (s : State) : BitVec 3 :=
  if s.initPhase = .reset then 1
  else if s.init = false ∧ s.initPhase = .none then 0
  else if s.asleep = true then 4
  else if s.bus16 = true then 3
  else 2

/-- `PANEL_STATE` (R31). -/
def State.panelState (s : State) : Word :=
  (0 : BitVec 20) ++ bit s.asleep ++ bit s.bus16 ++ bit s.portrait ++ bit s.init ++ (0 : BitVec 5) ++ s.tstate

/-- `PANEL_SIZE` (R33). -/
def State.panelSize (s : State) : Word := s.panelH ++ s.panelW

/-- `BL_STATE` (R34). -/
def State.blState (s : State) : Word := (0 : BitVec 15) ++ bit s.blEn ++ s.blLevel

/-- The duty cycle of the `BL` pin (R114). -/
def State.duty (s : State) : Rat :=
  if s.blEn then (s.blLevel.toNat : Rat) / (s.params.blMax.toNat : Rat) else 0

/-- The frequency of `SCK` (R109). -/
def State.sckHz (s : State) : Rat := (s.params.fClk : Rat) / (2 * ((s.sckDiv.toNat : Rat) + 1))

/-- For how many clock cycles of each PWM period the `BL` pin is high (R114). -/
def State.blHighCycles (s : State) : Rat := s.duty * (s.params.blPeriod : Rat)

/-- The least number of clock cycles an event takes (R145): 8 or 16 `SCK` periods for a word, `T_MODESW` for a switch, and
the milliseconds of a wait. The rule bounds no other event. -/
def State.leastCycles (s : State) : WireEvent → Rat
  | .w8 _ => 8 * (2 * ((s.sckDiv.toNat : Rat) + 1))
  | .w16 _ => 16 * (2 * ((s.sckDiv.toNat : Rat) + 1))
  | .width _ => (s.params.tModesw : Rat)
  | .wait ms => (ms : Rat) * (s.params.fClk : Rat) / 1000
  | .cs _ => 0
  | .dc _ => 0
  | .rst _ => 0
  | .bl _ _ => 0

/-- Write 1 to clear (R25): each of bits 16 to 18 that the written value has set. -/
def State.clearSticky (s : State) (v : Word) : State :=
  { s with
    cmdOvf := s.cmdOvf && !v.getLsbD 16
    busyAcc := s.busyAcc && !v.getLsbD 17
    badAcc := s.badAcc && !v.getLsbD 18 }

end Sys2Proof.Machine
end

