-- ==== Sys2Proof/Machine/Operands.lean ====
section
/-! DEFINITION. The operands a command reaches through the machine: its argument snapshot (R22, R61) and the ranges of
parameter RAM its arguments name (R49, R94, R106). The fields of an argument word are decoded in Decode.lean. -/

namespace Sys2Proof.Machine

/-- The words the engine's decoder reads for an accepted command: the opcode and the argument snapshot (R22, R58). -/
def State.latch (s : State) (op : Byte) : Code := ⟨(0 : BitVec 24) ++ op, s.snap⟩

/-- A range of `len` bytes at `off` lies inside PRAM (R106). -/
def inPram (p : Params) (off len : Nat) : Bool := decide (off + len ≤ p.pramBytes)

/-- The `len` PRAM bytes at `off`, a text string (R106). -/
def State.pramString (s : State) (off len : Nat) : List Byte :=
  (List.range len).map (fun i => s.pram8 (off + i))

/-- An array of `n` int16 values may stand at `off`: even, and inside PRAM (R94). -/
def arrayOk (p : Params) (off n : Nat) : Bool := decide (off % 2 = 0) && inPram p off (2 * n)

/-- Element `i` of the int16 array at `off` (R94). -/
def State.pramInt16 (s : State) (off i : Nat) : Int := (s.pram16 (off + 2 * i)).toInt

/-- The `n` vertices whose coordinates stand in the arrays at `xs` and `ys` (R94). -/
def State.vertices (s : State) (xs ys n : Nat) : List (Int × Int) :=
  (List.range n).map (fun i => (s.pramInt16 xs i, s.pramInt16 ys i))

end Sys2Proof.Machine
end

