-- ==== Sys2Proof/Machine/Buffer.lean ====
section
/-! DEFINITION. The Pixel Buffer commands (41_buffer.md R75 to R80). -/

namespace Sys2Proof.Machine

/-- The checks and the effect of a creation (R77, R78): `E_BUFEXISTS` first, then `E_ALLOC` on the exact product. -/
def State.createBuffer (s : State) (w h : Nat) : State :=
  if s.bufValid then s.complete .bufExists
  else if w * h > s.params.maxCells then s.complete .alloc
  else
    { s.redrawPbuf with
      bufW := BitVec.ofNat 16 w
      bufH := BitVec.ofNat 16 h
      bufValid := true }.complete .ok

/-- BUF_CREATE (R77). -/
def execBufCreate (w h : Nat) (s : State) : Result := .next (s.createBuffer w h)

/-- BUF_CREATE_PANEL (R78). -/
def execBufCreatePanel (s : State) : Result := .next (s.createBuffer s.panelW.toNat s.panelH.toNat)

/-- BUF_DESTROY (R79). -/
def execBufDestroy (s : State) : Result :=
  if s.bufValid then .next ({ s with bufValid := false, bufW := 0, bufH := 0 }.complete .ok)
  else .next (s.complete .noBuf)

/-- BUF_FILL (R80). -/
def execBufFill (c : Color) (s : State) : Result :=
  if s.bufValid then .next ({ s with mem := Mem.fill s.mem (s.bufW.toNat * s.bufH.toNat) c }.complete .ok)
  else .next (s.complete .noBuf)

end Sys2Proof.Machine
end

