-- ==== Sys2Proof/Machine/Codec.lean ====
section
/-! DEFINITION. The Color Codec and NOP (40_codec.md R70 to R74). -/

namespace Sys2Proof.Machine

/-! ### The codec's functions (R70) -/

/-- `Pack565(r5, g6, b5)`. -/
def pack565 (r : BitVec 5) (g : BitVec 6) (b : BitVec 5) : Color := r ++ g ++ b

/-- `Pack8(r, g, b)`: each channel keeps its top bits, by right shift. -/
def pack8 (r g b : Nat) : Color :=
  pack565 (BitVec.ofNat 5 (r >>> 3)) (BitVec.ofNat 6 (g >>> 2)) (BitVec.ofNat 5 (b >>> 3))

/-- The channels `Unpack(c)` gives. -/
def red (c : Color) : BitVec 5 := c.extractLsb' 11 5
def green (c : Color) : BitVec 6 := c.extractLsb' 5 6
def blue (c : Color) : BitVec 5 := c.extractLsb' 0 5

/-- The packed colour of PACKA (R73). -/
def packAlpha (r g b a : Nat) : Color :=
  if a = 255 then pack8 r g b
  else if a = 0 then 0
  else pack8 ((r * a) >>> 8) ((g * a) >>> 8) ((b * a) >>> 8)

/-- The lanes of UNPACK's result (R74). -/
def unpackWord (c : Color) : Word :=
  (0 : Byte) ++ (blue c).setWidth 8 ++ (green c).setWidth 8 ++ (red c).setWidth 8

/-! ### The commands -/

/-- NOP (R71). -/
def execNop (s : State) : Result := .next (s.complete .ok)

/-- PACK (R72); the alpha lane is ignored. -/
def execPack (r g b _a : Nat) (s : State) : Result := .next (s.completeRes0 ((pack8 r g b).setWidth 32))

/-- PACKA (R73). -/
def execPackA (r g b a : Nat) (s : State) : Result := .next (s.completeRes0 ((packAlpha r g b a).setWidth 32))

/-- UNPACK (R74). -/
def execUnpack (c : Color) (s : State) : Result := .next (s.completeRes0 (unpackWord c))

end Sys2Proof.Machine
end

