-- ==== Sys2Proof/Machine/Draw.lean ====
section
/-! DEFINITION. The drawing algorithms of the Rasterizer (42_raster.md R83, R84, R91; 43_triangle.md R96, R97; 44_text.md
R102 to R104). Each gives the pixels it draws, in the order of its `PutPixel` calls; `State.plot` clips and stores them
(R17, R82). Arithmetic is over mathematical integers (R10, R13 to R15). -/

namespace Sys2Proof.Machine

/-- `i << 16` (R13). -/
def shl16 (i : Int) : Int := i * 65536

/-- `i >> 16`: rounds toward minus infinity (R13). -/
def sar16 (i : Int) : Int := i / 65536

/-! ### Rows (R83) -/

/-- `Span(xa, xb, y, c)`: inclusive; nothing when `xa > xb`. -/
def span (xa xb y : Int) (c : Color) : List Pixel :=
  (List.range (xb - xa + 1).toNat).map (fun i => ⟨xa + (i : Int), y, c⟩)

/-- `HSpan(x, y, w, c)`: `w` cells starting at `x`; nothing when `w <= 0`. -/
def hspan (x y w : Int) (c : Color) : List Pixel :=
  if w ≥ 1 then span x (x + w - 1) y c else []

/-- The three channels of a colour, or their 16.16 accumulators or steps, as integers. -/
structure Channels where
  r : Int
  g : Int
  b : Int
  deriving DecidableEq, Repr

/-- The channels of a colour (`Unpack`, R70). -/
def channels (c : Color) : Channels := ⟨(red c).toNat, (green c).toNat, (blue c).toNat⟩

/-- `Pack565` of integer channels; the rules keep them in range (R83, R97). -/
def packChannels (k : Channels) : Color :=
  pack565 (BitVec.ofInt 5 k.r) (BitVec.ofInt 6 k.g) (BitVec.ofInt 5 k.b)

/-- Channel by channel. -/
def Channels.map2 (f : Int → Int → Int) (p q : Channels) : Channels := ⟨f p.r q.r, f p.g q.g, f p.b q.b⟩

/-- The step of one channel across a row of `w` cells (R83). -/
def gradStep (w a b : Int) : Int := if w = 1 then 0 else (shl16 (b - a)).tdiv (w - 1)

/-- The cells of a gradient row from accumulators `acc` and steps `step` (R83). -/
def gradCells (y : Int) (step : Channels) : (n : Nat) → (x : Int) → (acc : Channels) → List Pixel
  | 0, _, _ => []
  | n + 1, x, acc =>
    ⟨x, y, packChannels ⟨sar16 acc.r, sar16 acc.g, sar16 acc.b⟩⟩
      :: gradCells y step n (x + 1) (Channels.map2 (· + ·) acc step)

/-- `GradRow(x, y, w, c0, c1)` (R83). -/
def gradRow (x y w : Int) (c0 c1 : Color) : List Pixel :=
  if w ≤ 0 then []
  else
    gradCells y (Channels.map2 (gradStep w) (channels c0) (channels c1)) w.toNat x
      ⟨shl16 (channels c0).r, shl16 (channels c0).g, shl16 (channels c0).b⟩

/-! ### Bresenham's line (R84) -/

/-- The loop of `LineFn`: the pixel at (x, y), then the step; `n` bounds the number of passes. -/
def linePass (x1 y1 dx dy sx sy : Int) (c : Color) : (n : Nat) → (x y err : Int) → List Pixel
  | 0, _, _, _ => []
  | n + 1, x, y, err =>
    ⟨x, y, c⟩ ::
      if x = x1 ∧ y = y1 then []
      else
        let stepX : Bool := decide (2 * err > -dy)
        let stepY : Bool := decide (2 * err < dx)
        linePass x1 y1 dx dy sx sy c n
          (if stepX then x + sx else x)
          (if stepY then y + sy else y)
          ((if stepX then err - dy else err) + (if stepY then dx else 0))

/-- `LineFn(x0, y0, x1, y1, c)` (R84): at most `max(dx, dy) + 1` passes, which is what the walk takes. -/
def lineFn (x0 y0 x1 y1 : Int) (c : Color) : List Pixel :=
  linePass x1 y1 |x1 - x0| |y1 - y0| (if x0 < x1 then 1 else -1) (if y0 < y1 then 1 else -1) c
    ((max |x1 - x0| |y1 - y0|).toNat + 1) x0 y0 (|x1 - x0| - |y1 - y0|)

/-- The closed outline through vertices: each point to the next, and the last to the first (R94). -/
def closedOutline (vs : List (Int × Int)) (c : Color) : List Pixel :=
  (vs.zip (vs.rotateLeft 1)).flatMap (fun e => lineFn e.1.1 e.1.2 e.2.1 e.2.2 c)

/-! ### The midpoint circle (R91 to R93) -/

/-- The loop of `CircleWalk`: the octant points visited; `n` bounds the number of passes. -/
def circlePass : (n : Nat) → (x y d : Int) → List (Int × Int)
  | 0, _, _, _ => []
  | n + 1, x, y, d =>
    if x ≥ y then
      (x, y) ::
        if d < 0 then circlePass n x (y + 1) (d + 2 * (y + 1) + 1)
        else circlePass n (x - 1) (y + 1) (d + 2 * ((y + 1) - (x - 1)) + 1)
    else []

/-- `CircleWalk(r)` (R91): y rises by one a pass from 0 while `y <= x <= r`, so at most `r + 1` passes. -/
def circleWalk (r : Int) : List (Int × Int) := circlePass (r.toNat + 1) r 0 (1 - r)

/-- The eight points of one visit (R92). -/
def octants (cx cy : Int) (c : Color) (p : Int × Int) : List Pixel :=
  [⟨cx + p.1, cy + p.2, c⟩, ⟨cx + p.2, cy + p.1, c⟩, ⟨cx - p.2, cy + p.1, c⟩, ⟨cx - p.1, cy + p.2, c⟩,
   ⟨cx - p.1, cy - p.2, c⟩, ⟨cx - p.2, cy - p.1, c⟩, ⟨cx + p.2, cy - p.1, c⟩, ⟨cx + p.1, cy - p.2, c⟩]

/-- The four spans of one visit (R93). -/
def octantSpans (cx cy : Int) (c : Color) (p : Int × Int) : List Pixel :=
  span (cx - p.1) (cx + p.1) (cy + p.2) c ++ span (cx - p.1) (cx + p.1) (cy - p.2) c
    ++ span (cx - p.2) (cx + p.2) (cy + p.1) c ++ span (cx - p.2) (cx + p.2) (cy - p.1) c

/-! ### Triangles (R96, R97) -/

/-- A triangle vertex with its colour (R96). -/
structure Vertex where
  x : Int
  y : Int
  k : Color
  deriving DecidableEq, Repr

/-- `Sort3` (R96): by ascending y, stable; strict compares (0,1), (1,2), (0,1). -/
def sort3 (v0 v1 v2 : Vertex) : Vertex × Vertex × Vertex :=
  let p := if v0.y > v1.y then (v1, v0) else (v0, v1)
  let q := if p.2.y > v2.y then (v2, p.2) else (p.2, v2)
  let r := if p.1.y > q.1.y then (q.1, p.1) else (p.1, q.1)
  (r.1, r.2, q.2)

/-- `Slope(d, h)` (R97). -/
def slope (d h : Int) : Int := if h = 0 then 0 else (shl16 d).tdiv h

/-- `At(v0, s, k)` (R97). -/
def interp (v0 s k : Int) : Int := v0 + sar16 (s * k)

/-- The x intercepts of row `y`: the long edge's, then the active short edge's (R99). Row `b.y` is the lower edge's. -/
def rowEnds (a b c : Vertex) (y : Int) : Int × Int :=
  (interp a.x (slope (c.x - a.x) (c.y - a.y)) (y - a.y),
   if y < b.y then interp a.x (slope (b.x - a.x) (b.y - a.y)) (y - a.y)
   else interp b.x (slope (c.x - b.x) (c.y - b.y)) (y - b.y))

/-- The colour `k` rows below the start of an edge of height `h` (R100). -/
def edgeColor (k0 k1 : Color) (h k : Int) : Color :=
  packChannels
    (Channels.map2 (fun p q => interp p (slope (q - p) h) k) (channels k0) (channels k1))

/-- The colours at the two intercepts of row `y` (R100). -/
def rowColors (a b c : Vertex) (y : Int) : Color × Color :=
  (edgeColor a.k c.k (c.y - a.y) (y - a.y),
   if y < b.y then edgeColor a.k b.k (b.y - a.y) (y - a.y)
   else edgeColor b.k c.k (c.y - b.y) (y - b.y))

/-- The rows `lo .. hi`, both included (R17). -/
def rows (lo hi : Int) : List Int := (List.range (hi - lo + 1).toNat).map (fun j => lo + (j : Int))

/-- One row of a filled triangle (R99). -/
def fillRow (a b c : Vertex) (col : Color) (y : Int) : List Pixel :=
  let e := rowEnds a b c y
  if e.1 > e.2 then span e.2 e.1 y col else span e.1 e.2 y col

/-- The filled triangle of sorted vertices (R99). -/
def fillSorted (a b c : Vertex) (col : Color) : List Pixel :=
  if a.y = c.y then span (min a.x (min b.x c.x)) (max a.x (max b.x c.x)) a.y col
  else (rows a.y c.y).flatMap (fillRow a b c col)

/-- One row of a gradient triangle (R100): the colours swap with the ends. -/
def gradTriRow (a b c : Vertex) (y : Int) : List Pixel :=
  let e := rowEnds a b c y
  let k := rowColors a b c y
  if e.1 > e.2 then gradRow e.2 y (e.1 - e.2 + 1) k.2 k.1 else gradRow e.1 y (e.2 - e.1 + 1) k.1 k.2

/-- The first of three vertices whose x is `x`, or the third (R100, D23). -/
def firstWithX (a b c : Vertex) (x : Int) : Vertex :=
  if a.x = x then a else if b.x = x then b else c

/-- The gradient triangle of sorted vertices (R100). -/
def gradSorted (a b c : Vertex) : List Pixel :=
  if a.y = c.y then
    let l := firstWithX a b c (min a.x (min b.x c.x))
    let r := firstWithX a b c (max a.x (max b.x c.x))
    gradRow l.x a.y (r.x - l.x + 1) l.k r.k
  else (rows a.y c.y).flatMap (gradTriRow a b c)

/-! ### Glyphs (R101 to R104) -/

/-- The entry of code point `code`, 32 to 126 (R101). -/
def Font.entry (f : Font) (code : Nat) : Glyph := f.glyphs.toList.getD (code - 31) default

/-- Byte `k` of `FONT_BITMAP`; past its end, which a well-formed font never reads, a free value (R101, I25). -/
def Font.byte (f : Font) (k : Nat) : Byte := (f.bitmap[k]?).getD (Config.freeFontByte k)

/-- `GlyphBit(e, k)` (R102). -/
def Font.glyphBit (f : Font) (e : Glyph) (k : Nat) : Bool :=
  (Font.byte f (e.bitmapIndex + k / 8)).getLsbD (7 - k % 8)

/-- A code point of the glyph table (R103). -/
def supported (code : Nat) : Bool := decide (32 ≤ code) && decide (code ≤ 126)

/-- The advance of an entry in pixels (R104). -/
def Glyph.advance (e : Glyph) : Nat := e.advW.toNat / 16

/-- A box of `w` by `h` cells, row by row. -/
def box (left top : Int) (w h : Nat) (c : Color) : List Pixel :=
  (List.range h).flatMap (fun (j : Nat) =>
    (List.range w).map (fun (i : Nat) => (⟨left + (i : Int), top + (j : Int), c⟩ : Pixel)))

/-- A normal glyph (R104): the box filled first when opaque and `bg` is not transparent, then the set bits. -/
def glyphPixels (p : Params) (f : Font) (e : Glyph) (x y : Int) (fg bg : Color) (opq : Bool) : List Pixel :=
  let left := x + e.ofsX.toInt
  let top := y - (e.boxH.toNat : Int) - e.ofsY.toInt
  (if opq && decide (bg ≠ p.transparent) then box left top e.boxW.toNat e.boxH.toNat bg else [])
    ++ ((List.range (e.boxW.toNat * e.boxH.toNat)).filter (fun k => Font.glyphBit f e k)).map (fun k =>
        (⟨left + ((k % e.boxW.toNat : Nat) : Int), top + ((k / e.boxW.toNat : Nat) : Int), fg⟩ : Pixel))

/-- Cell (i, j) of the placeholder: the foreground, the background, or nothing when that is transparent (R103). -/
def placeholderCell (p : Params) (x y : Int) (fg bg : Color) (row : BitVec 12) (i j : Nat) : List Pixel :=
  if row.getMsbD i then [⟨x + 1 + (i : Int), y - 16 + (j : Int), fg⟩]
  else if bg ≠ p.transparent then [⟨x + 1 + (i : Int), y - 16 + (j : Int), bg⟩]
  else []

/-- The placeholder glyph (R103, R104). -/
def placeholderPixels (p : Params) (x y : Int) (fg bg : Color) : List Pixel :=
  (List.range 16).flatMap (fun j =>
    (List.range 12).flatMap (fun i => placeholderCell p x y fg bg (p.placeholder.toList.getD j 0) i j))

/-- `DrawGlyph`: the pixels, and the advance in pixels (R104). -/
def drawGlyph (p : Params) (f : Font) (code : Nat) (x y : Int) (fg bg : Color) (opq : Bool) : List Pixel × Nat :=
  if supported code then (glyphPixels p f (Font.entry f code) x y fg bg opq, Glyph.advance (Font.entry f code))
  else (placeholderPixels p x y fg bg, p.phAdvance.toNat)

/-- The pixels of a text and the pen after it (R106); `x0` is the start of every line. -/
def drawText (p : Params) (f : Font) (x0 : Int) (fg bg : Color) (opq : Bool) :
    List Byte → (px py : Int) → List Pixel × Int × Int
  | [], px, py => ([], px, py)
  | ch :: rest, px, py =>
    if ch = 10 then drawText p f x0 fg bg opq rest x0 (py + (f.lineHeight.toNat : Int) + (p.lineGap : Int))
    else if ch = 13 then drawText p f x0 fg bg opq rest x0 py
    else
      let g := drawGlyph p f ch.toNat px py fg bg opq
      let r := drawText p f x0 fg bg opq rest (px + (g.2 : Int)) py
      (g.1 ++ r.1, r.2)

/-- What one code point adds to a text's width (R107). -/
def widthOf (f : Font) (ch : Byte) : Nat :=
  if supported ch.toNat then Glyph.advance (Font.entry f ch.toNat) else 0

end Sys2Proof.Machine
end

