-- ==== Sys2Proof/Machine/Raster.lean ====
section
/-! DEFINITION. The Rasterizer's commands but triangles and text (42_raster.md R81 to R95). -/

namespace Sys2Proof.Machine

/-- A drawing command (R81): `E_NOBUF` without a live buffer; else its pixels are put, and it completes. -/
def State.draw (s : State) (ps : List Pixel) : Result :=
  if s.bufValid then .next ((s.plot ps).complete .ok) else .next (s.complete .noBuf)

/-- The outline of a rectangle (R89): top and bottom edges, then left and right. -/
def rectOutline (x y w h : Int) (c : Color) : List Pixel :=
  if w ≤ 0 ∨ h ≤ 0 then []
  else
    hspan x y w c ++ hspan x (y + h - 1) w c
      ++ (rows 0 (h - 1)).flatMap (fun j => [⟨x, y + j, c⟩, ⟨x + w - 1, y + j, c⟩])

/-- A filled rectangle (R90). -/
def rectFilled (x y w h : Int) (c : Color) : List Pixel :=
  if w ≤ 0 ∨ h ≤ 0 then [] else (rows 0 (h - 1)).flatMap (fun j => hspan x (y + j) w c)

/-- The outline of a circle (R92). -/
def circleOutline (cx cy r : Int) (c : Color) : List Pixel :=
  if r < 0 then [] else (circleWalk r).flatMap (octants cx cy c)

/-- A filled disc (R93). -/
def circleFilled (cx cy r : Int) (c : Color) : List Pixel :=
  if r < 0 then [] else (circleWalk r).flatMap (octantSpans cx cy c)

/-- PIXEL (R85). -/
def execPixel (x y : Int) (c : Color) (s : State) : Result := s.draw [⟨x, y, c⟩]

/-- HLINE (R86). -/
def execHline (x y w : Int) (c : Color) (s : State) : Result := s.draw (hspan x y w c)

/-- HLINE_GRAD (R87). -/
def execHlineGrad (x y w : Int) (c0 c1 : Color) (s : State) : Result := s.draw (gradRow x y w c0 c1)

/-- LINE (R88). -/
def execLine (x0 y0 x1 y1 : Int) (c : Color) (s : State) : Result := s.draw (lineFn x0 y0 x1 y1 c)

/-- RECT (R89). -/
def execRect (x y w h : Int) (c : Color) (s : State) : Result := s.draw (rectOutline x y w h c)

/-- RECT_FILL (R90). -/
def execRectFill (x y w h : Int) (c : Color) (s : State) : Result := s.draw (rectFilled x y w h c)

/-- CIRCLE (R92). -/
def execCircle (cx cy r : Int) (c : Color) (s : State) : Result := s.draw (circleOutline cx cy r c)

/-- CIRCLE_FILL (R93). -/
def execCircleFill (cx cy r : Int) (c : Color) (s : State) : Result := s.draw (circleFilled cx cy r c)

/-- POLY (R94): `E_NOBUF`, then nothing for n < 3, then `E_ARG`, then the closed outline. -/
def execPoly (xs ys n : Nat) (c : Color) (s : State) : Result :=
  if s.bufValid = false then .next (s.complete .noBuf)
  else if n < 3 then .next (s.complete .ok)
  else if arrayOk s.params xs n && arrayOk s.params ys n then s.draw (closedOutline (s.vertices xs ys n) c)
  else .next (s.complete .arg)

/-- POLY_FILL (R95): `E_UNIMPL`, before any check. -/
def execPolyFill (s : State) : Result := .next (s.complete .unimpl)

end Sys2Proof.Machine
end

