-- ==== Sys2Proof/Machine/Text.lean ====
section
/-! DEFINITION. The text commands (44_text.md R105 to R107). The background choice is the snapshot `OPAQUE_S` (R22). -/

namespace Sys2Proof.Machine

/-- CHAR (R105): the glyph, and its advance in RES0. -/
def execChar (x y : Int) (code : Nat) (fg bg : Color) (s : State) : Result :=
  if s.bufValid then
    let g := drawGlyph s.params s.font code x y fg bg s.opaqueS
    .next ((s.plot g.1).completeRes0 (BitVec.ofNat 32 g.2))
  else .next (s.complete .noBuf)

/-- TEXT (R106): `E_NOBUF`, then `E_ARG`, then the glyphs; the final pen in RES0 and RES1. -/
def execText (x y : Int) (off len : Nat) (fg bg : Color) (s : State) : Result :=
  if s.bufValid = false then .next (s.complete .noBuf)
  else if inPram s.params off len then
    let r := drawText s.params s.font x fg bg s.opaqueS (s.pramString off len) x y
    .next ((s.plot r.1).completeRes01 (BitVec.ofInt 32 r.2.1) (BitVec.ofInt 32 r.2.2))
  else .next (s.complete .arg)

/-- TEXT_WIDTH (R107): the sum of the advances of the supported code points. It needs no buffer. -/
def execTextWidth (off len : Nat) (s : State) : Result :=
  if inPram s.params off len then
    .next (s.completeRes0 (BitVec.ofNat 32 ((s.pramString off len).map (widthOf s.font)).sum))
  else .next (s.complete .arg)

end Sys2Proof.Machine
end

