-- ==== Sys2Proof/Machine/Transport.lean ====
section
/-! DEFINITION. The Panel Transport (45_transport.md R108 to R124) and its bus failures (60_exceptions.md R130). A
transport command either stops at a check or drives a list of actions; the engine runs the list to its end
(`runActs`), or one action at a time (Machine/Engine.lean). -/

namespace Sys2Proof.Machine

/-! ### One action -/

/-- What one action leaves: the state after it, or a failed or a stalled word. -/
inductive ActResult where
  | done (s : State)
  | failed (s : State)
  | stalled (s : State)
  deriving Repr

/-- One physical bus-mode switch (R111, R112): the `Width` event, the memo and the counter, in one step. -/
def State.switchWidth (s : State) (wide : Bool) : State :=
  { s.emit (.width wide) with bus16 := wide, modeSwCnt := s.modeSwCnt + 1 }

/-- The next outcome of the panel bus; an empty list stands for `ok` (R130). -/
def State.nextOutcome (s : State) : BusOutcome := s.bus.headD .ok

/-- One word on the panel bus (R130): appended when the environment says `ok`, otherwise not. -/
def State.shiftWord (s : State) (e : WireEvent) : ActResult :=
  let t : State := { s with bus := s.bus.tail }
  match s.nextOutcome with
  | .ok => .done (t.emit e)
  | .fail => .failed t
  | .stall => .stalled t

/-- The logical size of an orientation (R115). -/
def panelWidth (p : Params) (portrait : Bool) : Half := if portrait then p.portraitW else p.landscapeW
def panelHeight (p : Params) (portrait : Bool) : Half := if portrait then p.portraitH else p.landscapeH

/-- The effect of one action. That `orient` does both lines of R115 is the model's choice (log 13). -/
def Act.run (s : State) : Act → ActResult
  | .phase p => .done { s with initPhase := p }
  | .sckDiv d => .done { s with sckDiv := d }
  | .backlight en level => .done { s.emit (.bl en level) with blEn := en, blLevel := level }
  | .ensure8 => .done (if s.bus16 then s.switchWidth false else s)
  | .ensure16 => .done (if s.bus16 then s else s.switchWidth true)
  | .cs v => .done (s.emit (.cs v))
  | .dc v => .done (s.emit (.dc v))
  | .rst v => .done (s.emit (.rst v))
  | .wait ms => .done (s.emit (.wait ms))
  | .word8 b => s.shiftWord (.w8 b)
  | .word16 h => s.shiftWord (.w16 h)
  | .orient p => .done { s with portrait := p, panelW := panelWidth s.params p, panelH := panelHeight s.params p }
  | .initDone => .done { s with init := true, asleep := false, initPhase := .none }
  | .deinitDone => .done { s with init := false, asleep := false }
  | .asleep v => .done { s with asleep := v }

/-- A list of actions to its end: completion with `E_OK`, a bus failure, or a stall (R127, R130). -/
def runActs (isInit : Bool) : List Act → State → State
  | [], s => s.complete .ok
  | a :: rest, s =>
    match Act.run s a with
    | .done t => runActs isInit rest t
    | .failed t => t.busFail isInit
    | .stalled t => t.busStall

/-! ### The sequences -/

/-- `PanelCmd(op, params)` (R113). -/
def panelCmd (op : Byte) (params : List Byte) : List Act :=
  [.ensure8, .dc false, .cs false, .word8 op, .dc true] ++ params.map Act.word8 ++ [.cs true]

/-- `SetOrientationStep(portrait)` (R115). -/
def orientStep (p : Params) (portrait : Bool) : List Act :=
  .orient portrait
    :: panelCmd p.opMadctl [if portrait then p.madctlPortrait else p.madctlLandscape]

/-- The two bytes of a window bound, big-endian (R45). -/
def bigEndian (h : Half) : List Byte := [h.extractLsb' 8 8, h.extractLsb' 0 8]

/-- P_INIT's sequence (R117). -/
def initActs (p : Params) (portrait : Bool) (sckdiv : Half) : List Act :=
  [.phase .reset, .sckDiv sckdiv, .backlight true p.blMax, .ensure8, .cs true, .dc true, .rst true,
   .rst false, .wait p.tRstLow, .rst true, .wait p.tRstHigh]
    ++ panelCmd p.opSwreset [] ++ [.wait p.tSwreset, .phase .post]
    ++ panelCmd p.opGamset p.gammaParams
    ++ orientStep p portrait
    ++ panelCmd p.opColmod p.colmodParams
    ++ panelCmd p.opFrmctr p.frmctrParams
    ++ panelCmd p.opSlpout [] ++ [.wait p.tSlpout]
    ++ panelCmd p.opDispon []
    ++ [.backlight true p.blMax, .ensure16, .initDone]

/-- Display off and sleep in, with its delay (R118, R120). -/
def sleepInActs (p : Params) : List Act :=
  panelCmd p.opDispoff [] ++ panelCmd p.opSlpin [] ++ [.wait p.tSlpin]

/-- P_DEINIT's sequence (R118). -/
def deinitActs (p : Params) (asleep : Bool) : List Act :=
  (if asleep then [] else sleepInActs p) ++ [.backlight false 0, .deinitDone]

/-- P_SLEEP's sequence (R120); the level is kept. -/
def sleepActs (p : Params) (level : Half) : List Act := sleepInActs p ++ [.backlight false level, .asleep true]

/-- P_WAKE's sequence (R121). -/
def wakeActs (p : Params) (level : Half) : List Act :=
  panelCmd p.opSlpout [] ++ [.wait p.tSlpout] ++ panelCmd p.opDispon []
    ++ [.backlight (decide (level ≠ 0)) level, .asleep false]

/-- P_BRIGHT's one event (R122). -/
def brightActs (asleep : Bool) (v : Half) : List Act := [.backlight (decide (v ≠ 0) && !asleep) v]

/-- The level of a percentage (R123). -/
def percentLevel (p : Params) (pct : Nat) : Nat := min pct 100 * p.blMax.toNat / 100

/-- The cells of the live buffer in row-major order (R76, R124). -/
def State.cells (s : State) : List Half := (List.range (s.bufW.toNat * s.bufH.toNat)).map s.cellAt

/-- P_DRAW's sequence (R124): the window, then the pixels in one burst. -/
def drawActs (p : Params) (x y w h : Nat) (cells : List Half) : List Act :=
  [.ensure8]
    ++ panelCmd p.opCaset (bigEndian (BitVec.ofNat 16 x) ++ bigEndian (BitVec.ofNat 16 (x + w - 1)))
    ++ panelCmd p.opPaset (bigEndian (BitVec.ofNat 16 y) ++ bigEndian (BitVec.ofNat 16 (y + h - 1)))
    ++ [.dc false, .cs false, .word8 p.opRamwr, .dc true, .ensure16]
    ++ cells.map Act.word16 ++ [.cs true]

/-! ### What a command does: stop, or drive -/

/-- A transport command after its checks: it completes with a code at once, or drives a sequence. -/
inductive Plan where
  | stop (e : Err)
  | drive (isInit : Bool) (acts : List Act)
  deriving DecidableEq, Repr

/-- A plan run to its end. -/
def Plan.finish (s : State) : Plan → State
  | .stop e => s.complete e
  | .drive isInit acts => runActs isInit acts s

/-- The check of R116. -/
def State.whenInit (s : State) (p : Plan) : Plan := if s.init then p else .stop .notInit

def planInit (portrait : Bool) (sckdiv : Nat) (s : State) : Plan :=
  if s.init then .stop .ok else .drive true (initActs s.params portrait (BitVec.ofNat 16 sckdiv))

def planDeinit (s : State) : Plan :=
  if s.init then .drive false (deinitActs s.params s.asleep) else .stop .ok

def planOrient (portrait : Bool) (s : State) : Plan := s.whenInit (.drive false (orientStep s.params portrait))

def planSleep (s : State) : Plan :=
  s.whenInit (if s.asleep then .stop .ok else .drive false (sleepActs s.params s.blLevel))

def planWake (s : State) : Plan :=
  s.whenInit (if s.asleep then .drive false (wakeActs s.params s.blLevel) else .stop .ok)

def planBright (v : Nat) (s : State) : Plan :=
  s.whenInit (.drive false (brightActs s.asleep (BitVec.ofNat 16 v)))

def planDraw (x y : Nat) (s : State) : Plan :=
  s.whenInit
    (if s.bufValid = false then .stop .noBuf
     else if s.bufW = 0 ∨ s.bufH = 0 then .stop .ok
     else .drive false (drawActs s.params x y s.bufW.toNat s.bufH.toNat s.cells))

/-! ### The commands -/

/-- P_INIT (R117). -/
def execPInit (portrait : Bool) (sckdiv : Nat) (s : State) : Result :=
  .next (Plan.finish s (planInit portrait sckdiv s))

/-- P_DEINIT (R118). -/
def execPDeinit (s : State) : Result := .next (Plan.finish s (planDeinit s))

/-- P_ORIENT (R119). -/
def execPOrient (portrait : Bool) (s : State) : Result := .next (Plan.finish s (planOrient portrait s))

/-- P_SLEEP (R120). -/
def execPSleep (s : State) : Result := .next (Plan.finish s (planSleep s))

/-- P_WAKE (R121). -/
def execPWake (s : State) : Result := .next (Plan.finish s (planWake s))

/-- P_BRIGHT (R122). -/
def execPBright (level : Nat) (s : State) : Result := .next (Plan.finish s (planBright level s))

/-- P_BRIGHT_PCT (R123). -/
def execPBrightPct (pct : Nat) (s : State) : Result := .next (Plan.finish s (planBright (percentLevel s.params pct) s))

/-- P_DRAW (R124). -/
def execPDraw (x y : Nat) (s : State) : Result := .next (Plan.finish s (planDraw x y s))

end Sys2Proof.Machine
end

