-- ==== Sys2Proof/Machine/Triangle.lean ====
section
/-! DEFINITION. The triangle commands (43_triangle.md R96 to R100). -/

namespace Sys2Proof.Machine

/-- The outline of a triangle (R98): edges P0→P1, P1→P2, P2→P0. -/
def triOutline (x0 y0 x1 y1 x2 y2 : Int) (c : Color) : List Pixel :=
  lineFn x0 y0 x1 y1 c ++ lineFn x1 y1 x2 y2 c ++ lineFn x2 y2 x0 y0 c

/-- The filled triangle (R99). -/
def triFilled (x0 y0 x1 y1 x2 y2 : Int) (c : Color) : List Pixel :=
  let t := sort3 ⟨x0, y0, c⟩ ⟨x1, y1, c⟩ ⟨x2, y2, c⟩
  fillSorted t.1 t.2.1 t.2.2 c

/-- The gradient triangle (R100). -/
def triGradient (x0 y0 x1 y1 x2 y2 : Int) (k0 k1 k2 : Color) : List Pixel :=
  let t := sort3 ⟨x0, y0, k0⟩ ⟨x1, y1, k1⟩ ⟨x2, y2, k2⟩
  gradSorted t.1 t.2.1 t.2.2

/-- TRI (R98). -/
def execTri (x0 y0 x1 y1 x2 y2 : Int) (c : Color) (s : State) : Result := s.draw (triOutline x0 y0 x1 y1 x2 y2 c)

/-- TRI_FILL (R99). -/
def execTriFill (x0 y0 x1 y1 x2 y2 : Int) (c : Color) (s : State) : Result := s.draw (triFilled x0 y0 x1 y1 x2 y2 c)

/-- TRI_GRAD (R100). -/
def execTriGrad (x0 y0 x1 y1 x2 y2 : Int) (c0 c1 c2 : Color) (s : State) : Result :=
  s.draw (triGradient x0 y0 x1 y1 x2 y2 c0 c1 c2)

end Sys2Proof.Machine
end

