-- ==== Sys2Proof/Machine/Dispatch.lean ====
section
/-! DEFINITION. The meaning of each command: one arm per constructor, each a direct call. -/

namespace Sys2Proof.Machine

/-- What an accepted command does, from its acceptance to its completion. -/
def exec (i : Instr) (s : State) : Host.Outcome State Fault Refusal :=
  match i with
  | .nop => Sys2Proof.Machine.execNop s
  | .pack r g b a => Sys2Proof.Machine.execPack r g b a s
  | .packA r g b a => Sys2Proof.Machine.execPackA r g b a s
  | .unpack c => Sys2Proof.Machine.execUnpack c s
  | .bufCreate w h => Sys2Proof.Machine.execBufCreate w h s
  | .bufCreatePanel => Sys2Proof.Machine.execBufCreatePanel s
  | .bufDestroy => Sys2Proof.Machine.execBufDestroy s
  | .bufFill c => Sys2Proof.Machine.execBufFill c s
  | .pixel x y c => Sys2Proof.Machine.execPixel x y c s
  | .hline x y w c => Sys2Proof.Machine.execHline x y w c s
  | .hlineGrad x y w c0 c1 => Sys2Proof.Machine.execHlineGrad x y w c0 c1 s
  | .line x0 y0 x1 y1 c => Sys2Proof.Machine.execLine x0 y0 x1 y1 c s
  | .rect x y w h c => Sys2Proof.Machine.execRect x y w h c s
  | .rectFill x y w h c => Sys2Proof.Machine.execRectFill x y w h c s
  | .tri x0 y0 x1 y1 x2 y2 c => Sys2Proof.Machine.execTri x0 y0 x1 y1 x2 y2 c s
  | .triFill x0 y0 x1 y1 x2 y2 c => Sys2Proof.Machine.execTriFill x0 y0 x1 y1 x2 y2 c s
  | .triGrad x0 y0 x1 y1 x2 y2 c0 c1 c2 => Sys2Proof.Machine.execTriGrad x0 y0 x1 y1 x2 y2 c0 c1 c2 s
  | .circle cx cy r c => Sys2Proof.Machine.execCircle cx cy r c s
  | .circleFill cx cy r c => Sys2Proof.Machine.execCircleFill cx cy r c s
  | .poly xs ys n c => Sys2Proof.Machine.execPoly xs ys n c s
  | .polyFill => Sys2Proof.Machine.execPolyFill s
  | .char x y code fg bg => Sys2Proof.Machine.execChar x y code fg bg s
  | .text x y off len fg bg => Sys2Proof.Machine.execText x y off len fg bg s
  | .textWidth off len => Sys2Proof.Machine.execTextWidth off len s
  | .pInit portrait sckdiv => Sys2Proof.Machine.execPInit portrait sckdiv s
  | .pDeinit => Sys2Proof.Machine.execPDeinit s
  | .pOrient portrait => Sys2Proof.Machine.execPOrient portrait s
  | .pSleep => Sys2Proof.Machine.execPSleep s
  | .pWake => Sys2Proof.Machine.execPWake s
  | .pBright level => Sys2Proof.Machine.execPBright level s
  | .pBrightPct pct => Sys2Proof.Machine.execPBrightPct pct s
  | .pDraw x y => Sys2Proof.Machine.execPDraw x y s

end Sys2Proof.Machine
end

