-- ==== Sys2Proof/Machine/HostPort.lean ====
section
/-! DEFINITION. The host port (20_memory.md R41 to R53, 30_encoding.md R58): what each access of the host window reads
and writes, and when it is refused. -/

namespace Sys2Proof.Machine

/-- The number of bytes of an access. -/
def Width.bytes : Width → Nat
  | .w8 => 1
  | .w16 => 2
  | .w32 => 4

/-- The regions of the host window (R42). -/
inductive Region where
  | regs
  | pram
  | pbuf
  | unmapped
  deriving DecidableEq, Repr

/-- The region an offset lies in (R42). A host access counts as one of the region of its first byte, also where its other
bytes lie in the next region: that is the model's choice (log 29), and while a command runs it decides between BADACC and
BUSYACC. -/
def region (p : Params) (off : Nat) : Region :=
  if off < pramBase then .regs
  else if off < pramBase + p.pramBytes then .pram
  else if off < pbufBase then .unmapped
  else if off < pbufBase + 2 * p.maxCells then .pbuf
  else .unmapped

/-- Natural alignment (R46). -/
def aligned (w : Width) (off : Nat) : Bool := decide (off % w.bytes = 0)

/-- Every byte an access of PRAM touches lies in PRAM (R42). An aligned access can leave it only where `PRAM_BYTES` is not
a multiple of 4; that it is then refused as R47 says is the model's reading (log 26). -/
def State.inPramWindow (s : State) (w : Width) (off : Nat) : Bool :=
  decide (off + w.bytes ≤ pramBase + s.params.pramBytes)

/-- Every cell an access of PBUF touches belongs to the live buffer (R48). -/
def State.inLive (s : State) (w : Width) (off : Nat) : Bool :=
  s.bufValid && decide (off + w.bytes ≤ pbufBase + 2 * (s.bufW.toNat * s.bufH.toNat))

/-! ### Bytes of an access, little-endian (R44) -/

/-- The value a taken read of PRAM or PBUF returns, zero-extended. -/
def State.readMem (s : State) (w : Width) (off : Nat) : Word :=
  match w with
  | .w8 => (s.byteAt off).setWidth 32
  | .w16 => (s.byteAt (off + 1) ++ s.byteAt off).setWidth 32
  | .w32 => s.byteAt (off + 3) ++ s.byteAt (off + 2) ++ s.byteAt (off + 1) ++ s.byteAt off

/-- Write bytes at rising offsets. -/
def Mem.writeBytes (m : Mem) (off : Nat) : List Byte → Mem
  | [] => m
  | b :: bs => Mem.writeBytes (Mem.write m off b) (off + 1) bs

/-- The bytes of a written value, the lowest offset first; a narrow access takes the low bits. -/
def valueBytes (w : Width) (v : Word) : List Byte :=
  match w with
  | .w8 => [byteOf v 0]
  | .w16 => [byteOf v 0, byteOf v 1]
  | .w32 => [byteOf v 0, byteOf v 1, byteOf v 2, byteOf v 3]

/-- A taken write of PRAM or PBUF changes exactly the bytes it covers (R48). -/
def State.writeMem (s : State) (w : Width) (off : Nat) (v : Word) : State :=
  { s with mem := Mem.writeBytes s.mem off (valueBytes w v) }

/-! ### Refused accesses -/

/-- A refused access (R46, R47, R48). -/
def State.refuseBad (s : State) : State := { s with badAcc := true }

/-- An access of PRAM or PBUF refused because a command runs (R50). -/
def State.refuseBusy (s : State) : State := { s with busyAcc := true }

/-! ### Registers (R36) -/

/-- What a register reads as; `none` at an unmapped offset (R36, R47). -/
def State.readReg (s : State) (off : Nat) : Option Word :=
  match off with
  | 0x000 => some idWord
  | 0x004 => some 0
  | 0x008 => some s.statusWord
  | 0x00C => some s.ctrlWord
  | 0x010 => some s.res0
  | 0x014 => some s.res1
  | 0x018 => some s.bufInfo
  | 0x01C => some s.panelState
  | 0x020 => some s.panelSize
  | 0x024 => some s.blState
  | 0x028 => some s.modeSwCnt
  | 0x040 => some s.args.a0
  | 0x044 => some s.args.a1
  | 0x048 => some s.args.a2
  | 0x04C => some s.args.a3
  | 0x050 => some s.args.a4
  | 0x054 => some s.args.a5
  | 0x058 => some s.args.a6
  | 0x05C => some s.args.a7
  | _ => none

/-- A write of `CMD` (R58): dropped while busy, else the command is accepted. -/
def State.writeCmd (s : State) (v : Word) : State :=
  if s.busy then { s with cmdOvf := true } else s.accept (opField v)

/-- The state after a register write; `none` at an unmapped offset. A read-only register ignores it (R36, R47). -/
def State.writeReg (s : State) (off : Nat) (v : Word) : Option State :=
  match off with
  | 0x000 => some s
  | 0x004 => some (s.writeCmd v)
  | 0x008 => some (s.clearSticky v)
  | 0x00C => some { s with glyphOpaque := v.getLsbD 0 }
  | 0x010 => some s
  | 0x014 => some s
  | 0x018 => some s
  | 0x01C => some s
  | 0x020 => some s
  | 0x024 => some s
  | 0x028 => some { s with modeSwCnt := 0 }
  | 0x040 => some { s with args := s.args.set 0 v }
  | 0x044 => some { s with args := s.args.set 1 v }
  | 0x048 => some { s with args := s.args.set 2 v }
  | 0x04C => some { s with args := s.args.set 3 v }
  | 0x050 => some { s with args := s.args.set 4 v }
  | 0x054 => some { s with args := s.args.set 5 v }
  | 0x058 => some { s with args := s.args.set 6 v }
  | 0x05C => some { s with args := s.args.set 7 v }
  | _ => none

/-- A register access is taken at 32 bits and aligned only (R46). -/
def regAccessOk (w : Width) (off : Nat) : Bool := decide (w = .w32) && aligned w off

/-! ### The accesses -/

/-- A host read: the value it returns and the state after it (R46 to R50). Its first byte gives its region (log 29). -/
def State.hostRead (s : State) (w : Width) (off : Nat) : Word × State :=
  match region s.params off with
  | .regs =>
    if regAccessOk w off then
      match s.readReg off with
      | some v => (v, s)
      | none => (0, s.refuseBad)
    else (0, s.refuseBad)
  | .pram =>
    if s.busy then (0, s.refuseBusy)
    else if aligned w off && s.inPramWindow w off then (s.readMem w off, s)
    else (0, s.refuseBad)
  | .pbuf =>
    if s.busy then (0, s.refuseBusy)
    else if aligned w off && s.inLive w off then (s.readMem w off, s)
    else (0, s.refuseBad)
  | .unmapped => (0, s.refuseBad)

/-- A host write: the state after it (R46 to R50). Its first byte gives its region (log 29). -/
def State.hostWrite (s : State) (w : Width) (off : Nat) (v : Word) : State :=
  match region s.params off with
  | .regs => if regAccessOk w off then (s.writeReg off v).getD s.refuseBad else s.refuseBad
  | .pram =>
    if s.busy then s.refuseBusy
    else if aligned w off && s.inPramWindow w off then s.writeMem w off v
    else s.refuseBad
  | .pbuf =>
    if s.busy then s.refuseBusy
    else if aligned w off && s.inLive w off then s.writeMem w off v
    else s.refuseBad
  | .unmapped => s.refuseBad

/-- The offset from `BASE` of a host address inside PPRT's window (R42). For an access it is its first byte that counts
(log 29). -/
def State.offset? (s : State) (addr : Nat) : Option Nat :=
  if addr / 0x80000 = s.params.window then some (addr % 0x80000) else none

/-- `MemRead` and `MemWrite` (R16): one access of the host; a read also tells the host its value. An access outside the
window does not reach PPRT: what answers it is not PPRT's, and nothing of PPRT changes (log 20). -/
def State.access (s : State) : Access → State
  | .read w addr =>
    match s.offset? addr with
    | some off =>
      let r := s.hostRead w off
      { r.2 with readLog := r.1 :: r.2.readLog }
    | none => s
  | .write w addr v =>
    match s.offset? addr with
    | some off => s.hostWrite w off v
    | none => s

end Sys2Proof.Machine
end

