-- ==== Sys2Proof/Machine/Engine.lean ====
section
/-! DEFINITION. The command engine (R19, R24, R127): one action of the running command, and the running command to its
completion. -/

namespace Sys2Proof.Machine

/-- What a transport command drives, action by action; `none` for a command that takes effect in one step, since no
host access sees PB, RES, BUF_INFO or ERR while it runs (R50, R54). -/
def planOf (i : Instr) (s : State) : Option Plan :=
  match i with
  | .pInit portrait sckdiv => some (planInit portrait sckdiv s)
  | .pDeinit => some (planDeinit s)
  | .pOrient portrait => some (planOrient portrait s)
  | .pSleep => some (planSleep s)
  | .pWake => some (planWake s)
  | .pBright level => some (planBright level s)
  | .pBrightPct pct => some (planBright (percentLevel s.params pct) s)
  | .pDraw x y => some (planDraw x y s)
  | .nop | .pack .. | .packA .. | .unpack .. | .bufCreate .. | .bufCreatePanel | .bufDestroy | .bufFill .. => none
  | .pixel .. | .hline .. | .hlineGrad .. | .line .. | .rect .. | .rectFill .. => none
  | .tri .. | .triFill .. | .triGrad .. | .circle .. | .circleFill .. | .poly .. | .polyFill => none
  | .char .. | .text .. | .textWidth .. => none

/-- The engine to the end of the running command. An opcode the decoder refuses completes with `E_BADOP` (R66). An
idle engine does nothing, and a stalled one never ends (R130). -/
def engineRun (s : State) : Result :=
  match s.engine with
  | .idle => .next s
  | .stalled => .next s
  | .accepted op =>
    match decode (s.latch op) with
    | .ok i => exec i s
    | .error _ => .next (s.complete .badOp)
  | .driving isInit acts => .next (runActs isInit acts s)

/-- One action of the engine. -/
def engineTick (s : State) : Result :=
  match s.engine with
  | .idle => .next s
  | .stalled => .next s
  | .accepted op =>
    match decode (s.latch op) with
    | .error _ => .next (s.complete .badOp)
    | .ok i =>
      match planOf i s with
      | some (.drive isInit acts) => .next { s with engine := .driving isInit acts }
      | some (.stop e) => .next (s.complete e)
      | none => exec i s
  | .driving _ [] => .next (s.complete .ok)
  | .driving isInit (a :: rest) =>
    match Act.run s a with
    | .done t => .next { t with engine := .driving isInit rest }
    | .failed t => .next (t.busFail isInit)
    | .stalled t => .next t.busStall

/-- One round of the host's `POLL` (R68): it reads `STATUS`; if BUSY is 1 it will read again, and the engine goes on by one
action in between. How many actions stand between two reads is the model's choice (log 23). -/
def pollRound (s : State) (rest : List Input) : Result :=
  if s.busy then engineTick { s with readLog := s.statusWord :: s.readLog }
  else .next { s with inputs := rest, readLog := s.statusWord :: s.readLog }

/-- What happens next according to the schedule; when it is empty, the engine goes on with the running command. -/
def advance (s : State) : Result :=
  match s.inputs with
  | [] => engineRun s
  | .access a :: rest => .next (State.access { s with inputs := rest } a)
  | .poll :: rest => pollRound s rest
  | .tick :: rest => engineTick { s with inputs := rest }
  | .run :: rest => engineRun { s with inputs := rest }
  | .reset :: rest => .next (State.powerOn { s with inputs := rest })

/-- Place a command in the engine's latch, accepted, with the given argument words, to run next. -/
def State.placeCode (s : State) (c : Code) : State :=
  { s with snap := c.args, engine := .accepted (opField c.cmd), inputs := .run :: s.inputs }

end Sys2Proof.Machine
end

