-- ==== Sys2Proof/Machine/Step.lean ====
section
/-! DEFINITION. One step of PPRT: the next entry of the schedule, or the engine (R19, R53, R54). -/

namespace Sys2Proof.Machine

/-- One step. PPRT fetches nothing (R24); what it runs next is the command in the engine's latch. -/
def step (s : State) : Host.Outcome State Fault Refusal := advance s

/-- The state with the instruction of bits `w` (a row of `nbits` bits; those above are 0) accepted, so that the very
next step runs it: `CMD[7:0]` in the engine's latch, the argument words in the snapshot. -/
def State.withFetchWord (s : State) (nbits w : Nat) : State := s.placeCode (codeOfBits (w % 2 ^ nbits))

end Sys2Proof.Machine
end

