-- ==== Sys2Proof/Machine/HostProgram.lean ====
section
/-! DEFINITION. What the assembler makes of a command line (R68) and of a pseudo-command (R69), as schedules of host
accesses of a PPRT at address `base`. The notation itself (mnemonics, numbers, comments) is text and is not modelled;
operands are numbers (log 23). -/

namespace Sys2Proof.Machine

/-- A host-access line `WR8`, `WR16` or `WR32` (R68). -/
def writeLine (base : Nat) (w : Width) (off : Nat) (v : Word) : Input := .access (.write w (base + off) v)

/-- A host-access line `RD8`, `RD16` or `RD32` (R68). -/
def readLine (base : Nat) (w : Width) (off : Nat) : Input := .access (.read w (base + off))

/-- The writes of a command line (R68): each ARG its format uses, in increasing index, then `CMD`. -/
def issue (base : Nat) (i : Instr) : List Input :=
  (argWords i).map (fun p => writeLine base .w32 (0x040 + 4 * p.1) p.2) ++ [writeLine base .w32 0x004 (cmdWord i)]

/-- The host access sequence of a command line, which ends in `POLL`; the assembler refuses an operand out of range
(R68). -/
def assemble (base : Nat) (i : Instr) : Option (List Input) :=
  if i.wf then some (issue base i ++ [.poll]) else none

/-- `SPAN xa, xb, y, c` (R69). The conditions are those R69 lists, and the operands of the expansion are checked as R68
says. That `xb` itself need not lie in the range of an S16 operand is the model's choice (log 27). -/
def pseudoSpan (base : Nat) (xa xb y : Int) (c : Color) : Option (List Input) :=
  if xb < xa ∨ xb - xa + 1 > 32767 then none else assemble base (.hline xa y (xb - xa + 1) c)

/-- `VLINE x, y, h, c` (R69). The conditions are those R69 lists, and the operands of the expansion are checked as R68
says. That `h` itself need not lie in the range of an S16 operand is the model's choice (log 27). -/
def pseudoVline (base : Nat) (x y h : Int) (c : Color) : Option (List Input) :=
  if h < 1 ∨ y + h - 1 > 32767 then none else assemble base (.line x y x (y + h - 1) c)

/-- `CLEAR` (R69). -/
def pseudoClear (base : Nat) : Option (List Input) := assemble base (.bufFill 0)

/-- `BL_OFF` (R69). -/
def pseudoBlOff (base : Nat) : Option (List Input) := assemble base (.pBright 0)

/-- `RGB r, g, b` (R69). -/
def pseudoRgb (base r g b : Nat) : Option (List Input) := assemble base (.pack r g b 0)

/-- `PRAM16 off, v0, v1, ...` (R69): the offset even, each value in [−32768, 65535], taken mod 2^16. R69 sets no upper
bound for the offset: the model makes the accesses it names, refused by PPRT outside PRAM, and outside the window not
PPRT's (log 28). -/
def pseudoPram16 (base off : Nat) (vs : List Int) : Option (List Input) :=
  if off % 2 = 0 ∧ vs.all (fun v => decide (-32768 ≤ v) && decide (v ≤ 65535)) then
    some (vs.mapIdx (fun k v =>
      writeLine base .w16 (pramBase + off + 2 * k) ((BitVec.ofInt 16 v).setWidth 32)))
  else none

/-- `PRAMSTR off, "text"` (R69): one byte write for each byte of the text, at any offset (log 28). -/
def pseudoPramStr (base off : Nat) (text : List Byte) : List Input :=
  text.mapIdx (fun k b => writeLine base .w8 (pramBase + off + k) (b.setWidth 32))

end Sys2Proof.Machine
end

