-- ==== Sys2Proof/Safety.lean ====
section
/-! DEFINITION. The terms the claims use: what the wire trace says about the bus width, the pins and the backlight (R108,
R114), and the invariant of PPRT's state. -/

namespace Sys2Proof.Machine

/-! ### What a trace says; the newest event stands first -/

/-- The bus width the trace leaves: wide after `Width(16)`, narrow after `Width(8)` and at reset (R30). -/
def wideAfter : List WireEvent → Bool
  | [] => false
  | .width w :: _ => w
  | _ :: t => wideAfter t

/-- The contract of R108: every 8-bit word comes while the bus is narrow, every 16-bit word while it is wide. -/
def wordsMatchWidth : List WireEvent → Bool
  | [] => true
  | .w8 _ :: t => !wideAfter t && wordsMatchWidth t
  | .w16 _ :: t => wideAfter t && wordsMatchWidth t
  | _ :: t => wordsMatchWidth t

/-- The level of `CS_N` the trace leaves (R38, R109). -/
def csAfter : List WireEvent → Bool
  | [] => true
  | .cs v :: _ => v
  | _ :: t => csAfter t

/-- The level of `DC` the trace leaves. -/
def dcAfter : List WireEvent → Bool
  | [] => true
  | .dc v :: _ => v
  | _ :: t => dcAfter t

/-- The level of `RST_N` the trace leaves. -/
def rstAfter : List WireEvent → Bool
  | [] => true
  | .rst v :: _ => v
  | _ :: t => rstAfter t

/-- The backlight the trace leaves: disabled at level 0 at reset (R30, R114). -/
def blAfter : List WireEvent → Bool × Half
  | [] => (false, 0)
  | .bl en level :: _ => (en, level)
  | _ :: t => blAfter t

/-- How many `Width` events a trace holds (R112). -/
def widthEvents (t : List WireEvent) : Nat :=
  t.countP (fun e => match e with | .width _ => true | _ => false)

/-! ### A sequence of actions keeps the contract -/

/-- The bus width after an action, if a word of the other width does not break the contract. -/
def widthThrough (wide : Bool) : Act → Option Bool
  | .ensure8 => some false
  | .ensure16 => some true
  | .word8 _ => if wide then none else some wide
  | .word16 _ => if wide then some wide else none
  | _ => some wide

/-- From a bus of this width, every word of the sequence goes out at its own width. -/
def actsMatchWidth : Bool → List Act → Bool
  | _, [] => true
  | wide, a :: rest =>
    match widthThrough wide a with
    | some w => actsMatchWidth w rest
    | none => false

/-- No action turns the backlight on at level 0 (R114). -/
def actsKeepBacklight (acts : List Act) : Bool :=
  acts.all (fun a => match a with | .backlight en level => !en || decide (level ≠ 0) | _ => true)

/-- The part of a running transport command that is still to run keeps the rules of the wire. -/
def State.engineOk (s : State) : Bool :=
  match s.engine with
  | .driving _ acts => actsMatchWidth s.bus16 acts && actsKeepBacklight acts
  | _ => true

/-! ### The invariant -/

/-- An offset that PRAM or PBUF may list (R42). -/
def storageOffset (p : Params) (off : Nat) : Bool :=
  (decide (pramBase ≤ off) && decide (off < pramBase + p.pramBytes))
    || (decide (pbufBase ≤ off) && decide (off < pbufBase + 2 * p.maxCells))

/-- What holds of PPRT at reset and after every step. -/
structure State.Inv (s : State) : Prop where
  /-- The parameters keep their bounds (R9, R42). -/
  params : s.params.Ok
  /-- Memory keeps its canonical form. -/
  memCanonical : Mem.wf s.mem = true
  /-- Memory lists only bytes of PRAM and of PBUF (R42). -/
  memInStorage : ∀ e ∈ s.mem, storageOffset s.params e.1 = true
  /-- A live buffer fits in `MAX_CELLS` (R77). -/
  bufFits : s.bufW.toNat * s.bufH.toNat ≤ s.params.maxCells
  /-- Without a live buffer `BUF_INFO` is 0 (R29, R79). -/
  noBufNoSize : s.bufValid = false → s.bufW = 0 ∧ s.bufH = 0
  /-- The panel's size is its orientation's (R30, R115). -/
  panelSize : s.panelW = panelWidth s.params s.portrait ∧ s.panelH = panelHeight s.params s.portrait
  /-- The bus-width memo is the width the trace shows (R111, R112). -/
  busWidth : wideAfter s.wire = s.bus16
  /-- Words go out at the width of the bus (R108). -/
  contract : wordsMatchWidth s.wire = true
  /-- The pins hold the levels of the last events for them (R109). -/
  pinLevels : csAfter s.wire = s.pins.csN ∧ dcAfter s.wire = s.pins.dc ∧ rstAfter s.wire = s.pins.rstN
  /-- The backlight is what the last `BL` event said (R114). -/
  backlight : blAfter s.wire = (s.blEn, s.blLevel)
  /-- `BL_EN = 1` with `BL_LEVEL = 0` never occurs (R114). -/
  backlightOn : s.blEn = true → s.blLevel ≠ 0
  /-- What is left of a running transport command keeps to the rules. -/
  engine : s.engineOk = true

/-! ### What a drawing leaves in the buffer -/

/-- Cell (x, y) of the live buffer (R76). -/
def State.pixelAt (s : State) (x y : Nat) : Color := s.cellAt (y * s.bufW.toNat + x)

/-- A `PutPixel` into a buffer of `w` by `h` cells lands on cell `i` (R82). -/
def landsOn (w h : Nat) (p : Pixel) (i : Nat) : Bool :=
  decide (0 ≤ p.x) && decide (p.x < w) && decide (0 ≤ p.y) && decide (p.y < h)
    && decide (p.y.toNat * w + p.x.toNat = i)

/-- The colour the last of these `PutPixel`s to land on cell `i` leaves there, if one lands (R16, R82). -/
def lastColor (w h : Nat) : List Pixel → Nat → Option Color
  | [], _ => none
  | p :: ps, i => (lastColor w h ps i).or (if landsOn w h p i then some p.c else none)

/-- Some `PutPixel` of the list names the point (x, y). -/
def hasPoint (ps : List Pixel) (x y : Int) : Bool := ps.any (fun p => decide (p.x = x) && decide (p.y = y))

/-- `t` is `base` but for memory; in it, cell (x, y) of the live buffer holds `f x y`, and every byte outside the live
buffer's cells holds what it held in `base` (R76, R81). -/
structure State.DrawnAs (base : State) (f : Nat → Nat → Color) (t : State) : Prop where
  /-- Nothing but memory changes. -/
  frame : ∃ m, t = { base with mem := m }
  /-- The cells of the live buffer. -/
  cells : ∀ x y, x < base.bufW.toNat → y < base.bufH.toNat → t.pixelAt x y = f x y
  /-- Every other byte. -/
  outside : ∀ off, off < pbufBase ∨ pbufBase + 2 * (base.bufW.toNat * base.bufH.toNat) ≤ off →
    t.byteAt off = base.byteAt off

/-- One channel of a gradient row at cell `i`, in closed form: the accumulator after `i` steps (R83). -/
def gradChannel (w i a b : Int) : Int :=
  (a * 65536 + i * (if w = 1 then 0 else ((b - a) * 65536).tdiv (w - 1))) / 65536

/-- The colour of cell `i` of a gradient row of `w` cells from `c0` to `c1` (R83). -/
def gradColor (w i : Int) (c0 c1 : Color) : Color :=
  pack565 (BitVec.ofInt 5 (gradChannel w i (red c0).toNat (red c1).toNat))
    (BitVec.ofInt 6 (gradChannel w i (green c0).toNat (green c1).toNat))
    (BitVec.ofInt 5 (gradChannel w i (blue c0).toNat (blue c1).toNat))

/-- The intercept, or channel value, `k` rows below the start `v0` of an edge that changes by `d` over `h` rows (R97). -/
def edgeAt (v0 d h k : Int) : Int := v0 + (if h = 0 then 0 else (d * 65536).tdiv h) * k / 65536

/-- The colour `k` rows below the start of an edge of height `h` from colour `k0` to colour `k1`, in closed form: each
channel on its own (R97, R100). -/
def edgeColorAt (k0 k1 : Color) (h k : Int) : Color :=
  pack565
    (BitVec.ofInt 5 (edgeAt (red k0).toNat (((red k1).toNat : Int) - ((red k0).toNat : Int)) h k))
    (BitVec.ofInt 6 (edgeAt (green k0).toNat (((green k1).toNat : Int) - ((green k0).toNat : Int)) h k))
    (BitVec.ofInt 5 (edgeAt (blue k0).toNat (((blue k1).toNat : Int) - ((blue k0).toNat : Int)) h k))

/-- Every channel of `c` lies between that channel of `c0` and of `c1`. -/
def Between (c0 c1 c : Color) : Prop :=
  (min (red c0).toNat (red c1).toNat ≤ (red c).toNat ∧ (red c).toNat ≤ max (red c0).toNat (red c1).toNat) ∧
  (min (green c0).toNat (green c1).toNat ≤ (green c).toNat ∧
    (green c).toNat ≤ max (green c0).toNat (green c1).toNat) ∧
  (min (blue c0).toNat (blue c1).toNat ≤ (blue c).toNat ∧ (blue c).toNat ≤ max (blue c0).toNat (blue c1).toNat)

/-! ### What a format names -/

/-- The bits that a command's format names in each ARG it lists, as a mask (R61, R62): a 16-bit field alone stands in
bits 15:0, a U8 alone in bits 7:0, a B in bit 0. -/
def namedBits : Instr → List (Nat × Word)
  | .nop | .bufCreatePanel | .bufDestroy | .polyFill | .pDeinit | .pSleep | .pWake => []
  | .pack .. | .packA .. | .bufCreate .. | .pDraw .. => [(0, 0xFFFFFFFF)]
  | .unpack .. | .bufFill .. | .pBright .. => [(0, 0x0000FFFF)]
  | .pixel .. => [(0, 0xFFFFFFFF), (1, 0x0000FFFF)]
  | .hline .. | .circle .. | .circleFill .. | .poly .. => [(0, 0xFFFFFFFF), (1, 0x0000FFFF), (2, 0x0000FFFF)]
  | .hlineGrad .. => [(0, 0xFFFFFFFF), (1, 0x0000FFFF), (2, 0xFFFFFFFF)]
  | .line .. | .rect .. | .rectFill .. => [(0, 0xFFFFFFFF), (1, 0xFFFFFFFF), (2, 0x0000FFFF)]
  | .tri .. | .triFill .. => [(0, 0xFFFFFFFF), (1, 0xFFFFFFFF), (2, 0xFFFFFFFF), (3, 0x0000FFFF)]
  | .triGrad .. =>
      [(0, 0xFFFFFFFF), (1, 0xFFFFFFFF), (2, 0xFFFFFFFF), (3, 0xFFFFFFFF), (4, 0x0000FFFF)]
  | .char .. => [(0, 0xFFFFFFFF), (1, 0x000000FF), (2, 0xFFFFFFFF)]
  | .text .. => [(0, 0xFFFFFFFF), (1, 0xFFFFFFFF), (2, 0xFFFFFFFF)]
  | .textWidth .. => [(1, 0xFFFFFFFF)]
  | .pInit .. => [(0, 0x00000001), (1, 0x0000FFFF)]
  | .pOrient .. => [(0, 0x00000001)]
  | .pBrightPct .. => [(0, 0x000000FF)]

/-- All outcomes the environment has listed for coming words are `ok` (R130: a bus without faults). -/
def State.BusOk (s : State) : Prop := ∀ o ∈ s.bus, o = BusOutcome.ok

/-- The events of one panel command (R113), on a bus that is already narrow. -/
def panelCmdEvents (op : Byte) (params : List Byte) : List WireEvent :=
  [.dc false, .cs false, .w8 op, .dc true] ++ params.map WireEvent.w8 ++ [.cs true]

/-- The `Width(8)` event that comes first when the bus is wide (R111). -/
def narrowing (wide : Bool) : List WireEvent := if wide then [.width false] else []

end Sys2Proof.Machine
end

