-- ==== Sys2Proof/Certificates/Slice0/Obligations.lean ====
section
/-! DEFINITION. The statements about PPRT for the provers. Each docstring names the rule of spec/ it formalises. -/

open Sys2Proof Sys2Proof.Machine

/-! ### Decoding, encoding, stepping -/

/-- When the engine holds an accepted command that decodes to `i`, and the schedule lets it run, the step is `exec i`
(R24, R58); an opcode the decoder refuses completes with `E_BADOP` and changes nothing else (R66). The schedule
`inputs`, and the engine going on when it is empty, are the model's choice (logs 1 and 2). -/
def Obligations.StepRunsTheAcceptedCommand : Prop :=
  ∀ (s : State) (op : Byte), s.engine = .accepted op →
    (∀ i, decode (s.latch op) = .ok i →
      (s.inputs = [] → step s = exec i s) ∧
      (∀ rest, s.inputs = .run :: rest → step s = exec i { s with inputs := rest })) ∧
    (∀ e, decode (s.latch op) = .error e →
      (s.inputs = [] → step s = .next { s with err := .badOp, engine := .idle }) ∧
      (∀ rest, s.inputs = .run :: rest →
        step s = .next { s with inputs := rest, err := .badOp, engine := .idle }))

/-- A few command words with their argument words, written out from R62 and R64. -/
def Obligations.WrittenWordsDecode : Prop :=
  decode ⟨0x00000023, ⟨0xFFFFFFFE, 0x00020005, 0x0000F800, 0, 0, 0, 0, 0⟩⟩ = .ok (.line (-2) (-1) 5 2 0xF800) ∧
  decode ⟨0x00000001, ⟨0xFF123456, 0, 0, 0, 0, 0, 0, 0⟩⟩ = .ok (.pack 0x56 0x34 0x12 0xFF) ∧
  decode ⟨0x00000028, ⟨0x00010000, 0x00010004, 0x00010002, 0x07E0F800, 0x0000001F, 0, 0, 0⟩⟩
    = .ok (.triGrad 0 1 4 1 2 1 0xF800 0x07E0 0x001F) ∧
  decode ⟨0x00000031, ⟨0x00110000, 0x00050000, 0xFFFFF800, 0, 0, 0, 0, 0⟩⟩ = .ok (.text 0 17 0 5 0xF800 0xFFFF) ∧
  decode ⟨0x00000040, ⟨0x00000001, 0x00000000, 0, 0, 0, 0, 0, 0⟩⟩ = .ok (.pInit true 0) ∧
  decode ⟨0x00000100, Args.zero⟩ = .ok .nop

/-- Decoding the words of a well-formed command gives it back, with every operand at every value of its field. -/
def Obligations.DecodeOfEncode : Prop := ∀ i : Instr, i.wf = true → decode (encode i) = .ok i

/-- `CMD[31:8]` and the ARGs a format does not list have no effect: with anything there, the words of a well-formed
command decode to it (R59, R60, R62, R67). -/
def Obligations.DecodeIgnoresUnlistedWords : Prop :=
  ∀ (i : Instr) (hi : BitVec 24) (a : Args), i.wf = true →
    decode ⟨hi ++ opcode i, a.setAll (argWords i)⟩ = .ok i

/-- The bits of an ARG that a format does not name, the ARGs it does not list and `CMD[31:8]` have no effect, in every
format: argument words that agree with those of a well-formed command on the bits its format names decode to that command
(R60, R61, R62, R67). -/
def Obligations.DecodeIgnoresUnnamedArgBits : Prop :=
  ∀ (i : Instr) (hi : BitVec 24) (a : Args), i.wf = true →
    (∀ e ∈ namedBits i, Args.get a e.1 &&& e.2 = Args.get (encode i).args e.1 &&& e.2) →
    decode ⟨hi ++ opcode i, a⟩ = .ok i

/-- The illegal opcodes (R66): the decoder refuses exactly those of R66, and one that was accepted completes with
`E_BADOP` and changes nothing else. -/
def Obligations.IllegalOpcodesAreRefused : Prop :=
  ∀ c : Code,
    let n := (opField c.cmd).toNat
    let illegal := (0x04 ≤ n ∧ n ≤ 0x0F) ∨ (0x14 ≤ n ∧ n ≤ 0x1F) ∨ (0x2D ≤ n ∧ n ≤ 0x2F) ∨
      (0x33 ≤ n ∧ n ≤ 0x3F) ∨ 0x48 ≤ n
    (decode c = .error (.badOpcode (opField c.cmd)) ↔ illegal) ∧
    ∀ s : State, illegal → s.engine = .accepted (opField c.cmd) →
      engineRun s = .next { s with err := .badOp, engine := .idle }

/-- The writes of an assembled command line (R68), made by the host on an idle PPRT at any address, run its command: the
ARG writes and the CMD write are accepted, and the engine then does `exec` of the command on the snapshot. The schedule is
the model's choice (logs 1 and 23). -/
def Obligations.AssembledLineRunsItsCommand : Prop :=
  ∀ (i : Instr) (s : State), i.wf = true → s.engine = .idle →
    (Host.Core.run Sys2Proof.core ((issue s.params.base i).length + 1)
        { s with inputs := issue s.params.base i ++ [.run] } : Result)
      = exec i
          { s with
            args := s.args.setAll (argWords i), snap := s.args.setAll (argWords i), opaqueS := s.glyphOpaque,
            engine := .accepted (opcode i), inputs := [] }

/-! ### The machine as a whole -/

/-- No step stops: every step answers a next state (R52, R133). -/
def Obligations.EveryStepAnswersANextState : Prop := ∀ s : State, ∃ t, step s = .next t

/-- After reset the invariant holds. -/
def Obligations.ResetMeetsTheInvariant : Prop := State.Inv State.reset

/-- Every step keeps the invariant: the parameters' bounds, canonical memory, buffer size, panel size, and what the wire
trace says of the bus width, the pins and the backlight (R9, R76, R77, R108, R109, R114, R115). The form of memory, and that
the full-scale level is not 0, are the model's choice (logs 6 and 10). -/
def Obligations.EveryStepKeepsTheInvariant : Prop :=
  ∀ s t : State, s.Inv → step s = .next t → t.Inv

/-- What the registers read right after reset (R36, R40). -/
def Obligations.ResetRegisterValues : Prop :=
  State.reset.readReg 0x000 = some 0x50500007 ∧ State.reset.readReg 0x004 = some 0 ∧
  State.reset.readReg 0x008 = some 0 ∧ State.reset.readReg 0x00C = some 0 ∧
  State.reset.readReg 0x010 = some 0 ∧ State.reset.readReg 0x014 = some 0 ∧
  State.reset.readReg 0x018 = some 0 ∧ State.reset.readReg 0x01C = some 0x00000200 ∧
  State.reset.readReg 0x020 = some 0x014000F0 ∧ State.reset.readReg 0x024 = some 0 ∧
  State.reset.readReg 0x028 = some 0 ∧
  (∀ k, k < 8 → State.reset.readReg (0x040 + 4 * k) = some 0) ∧
  State.reset.tstate = 0 ∧ State.reset.busy = false ∧ State.reset.sckDiv = 0 ∧ State.reset.initPhase = .none ∧
  State.reset.pins = ⟨true, true, true, false, false⟩ ∧ State.reset.wire = []

/-- The platform's reset ends whatever runs, a stall too: every register, the pins and the trace take their reset
values, PRAM and PB hold new unspecified values, and the parameters stay (R9, R40, R130, R141). That the schedule, the bus
outcomes, the read log and the counters of the draws go on is the model's choice (logs 4, 5, 7 and 22). -/
def Obligations.ResetInputResetsEverything : Prop :=
  ∀ (s : State) (rest : List Input), s.inputs = .reset :: rest →
    step s = .next
      { State.reset with
        params := s.params, panelW := s.params.portraitW, panelH := s.params.portraitH, font := s.font,
        pramDraw := s.pramDraw + 1, pbDraw := s.pbDraw + 1, wordDraw := s.wordDraw,
        inputs := rest, bus := s.bus, readLog := s.readLog }

/-- A stalled engine stays stalled and BUSY stays 1, whatever happens but reset (R130, R141). -/
def Obligations.OnlyResetEndsAStall : Prop :=
  ∀ s t : State, s.engine = .stalled → (∀ rest, s.inputs ≠ .reset :: rest) → step s = .next t →
    t.engine = .stalled ∧ t.busy = true

/-- While a command runs, its actions leave RES0, RES1, BUF_INFO, STATUS.ERR, BUF_VALID, PRAM and PB as before it, until
it completes (R54). What one action is, is the model's choice (log 13). -/
def Obligations.RunningCommandHidesItsResults : Prop :=
  ∀ s t : State, engineTick s = .next t → t.busy = true →
    t.res0 = s.res0 ∧ t.res1 = s.res1 ∧ t.bufInfo = s.bufInfo ∧ t.err = s.err ∧ t.bufValid = s.bufValid ∧
    ∀ off, t.byteAt off = s.byteAt off

/-- Taking the running command action by action ends where running it in one go ends (R19, R54, R127); so does the host's
POLL, which reads STATUS until BUSY is 0: every read but the last has BUSY at 1, the last is the STATUS at the end, and
where the engine stalls the poll stays waiting (R68, R130). What one action is, and that one stands between two reads, is the model's
choice (logs 13 and 23). -/
def Obligations.TicksEndWhereTheRunEnds : Prop :=
  ∀ s : State,
    (∃ n, (Host.Core.run Sys2Proof.core n { s with inputs := List.replicate n .tick } : Result)
      = engineRun { s with inputs := [] }) ∧
    ∀ u : State, engineRun { s with inputs := [] } = .next u → ∃ (n : Nat) (reads : List Word),
      (Host.Core.run Sys2Proof.core n { s with inputs := [.poll] } : Result)
        = .next { u with inputs := if u.busy then [.poll] else [], readLog := reads ++ s.readLog } ∧
      (u.busy = false → reads.head? = some u.statusWord) ∧
      ∀ v ∈ reads.tail, v.getLsbD 0 = true

/-- `MODESW_CNT` rises by exactly the number of `Width` events a command adds to the trace (R112). -/
def Obligations.ModeSwitchCounterCountsWidthEvents : Prop :=
  ∀ (i : Instr) (s t : State), exec i s = .next t →
    ∃ new, t.wire = new ++ s.wire ∧ t.modeSwCnt = s.modeSwCnt + BitVec.ofNat 32 (widthEvents new)

/-- Only the three creation and destruction commands write BUF_VALID, BUF_W or BUF_H, and no command changes the size of
a buffer that stays live (R75). -/
def Obligations.OnlyBufferCommandsChangeTheSize : Prop :=
  ∀ (i : Instr) (s t : State), exec i s = .next t →
    ((∀ w h, i ≠ .bufCreate w h) → i ≠ .bufCreatePanel → i ≠ .bufDestroy →
      t.bufValid = s.bufValid ∧ t.bufW = s.bufW ∧ t.bufH = s.bufH) ∧
    (s.bufValid = true → t.bufValid = true → t.bufW = s.bufW ∧ t.bufH = s.bufH)

/-- A command that completes with an error leaves RES0 and RES1 alone, and one that does not fail on the bus changes
nothing else either but BUSY and ERR (R126, R128). -/
def Obligations.FailedCommandChangesNothing : Prop :=
  ∀ (i : Instr) (s t : State), exec i s = .next t → t.engine = .idle → t.err ≠ .ok →
    t.res0 = s.res0 ∧ t.res1 = s.res1 ∧
    (t.err ≠ .bus → t = { s with engine := .idle, err := t.err })

/-! ### Host accesses -/

/-- What an aligned write inside PRAM or inside the live buffer stores, an aligned read of the same width reads back, zero
extended (R44, R48, R49, R51); every other byte, and everything but memory, stays. A narrow write takes the low bits of
its value (log 25). -/
def Obligations.HostReadsBackWhatItWrote : Prop :=
  ∀ (s : State) (w : Width) (off : Nat) (v : Word), s.busy = false → off % w.bytes = 0 →
    (region s.params off = .pram ∧ off + w.bytes ≤ pramBase + s.params.pramBytes ∨
      region s.params off = .pbuf ∧ s.bufValid = true ∧
      off + w.bytes ≤ pbufBase + 2 * (s.bufW.toNat * s.bufH.toNat)) →
    (∃ m, s.hostWrite w off v = { s with mem := m }) ∧
    (s.hostWrite w off v).hostRead w off = (BitVec.ofNat 32 (v.toNat % 256 ^ w.bytes), s.hostWrite w off v) ∧
    ∀ a, a < off ∨ off + w.bytes ≤ a → (s.hostWrite w off v).byteAt a = s.byteAt a

/-- A taken host read of PRAM or PBUF (R44, R48, R49, R51): with no command running, an aligned access inside PRAM or inside
the live buffer returns the bytes held there, the lowest offset in the low bits, zero-extended, and leaves the state as it
was. So a 16-bit read of PBUF at offset 2·i returns cell `i`, and one of PRAM at `a` returns `PRAM16(a)`. -/
def Obligations.HostWindowIsLittleEndian : Prop :=
  ∀ (s : State) (off : Nat), s.busy = false →
    let inside (n : Nat) : Prop := off % n = 0 ∧
      (region s.params off = .pram ∧ off + n ≤ pramBase + s.params.pramBytes ∨
        region s.params off = .pbuf ∧ s.bufValid = true ∧
          off + n ≤ pbufBase + 2 * (s.bufW.toNat * s.bufH.toNat))
    (inside 1 → s.hostRead .w8 off = (BitVec.ofNat 32 (s.byteAt off).toNat, s)) ∧
    (inside 2 → s.hostRead .w16 off
      = (BitVec.ofNat 32 ((s.byteAt off).toNat + 256 * (s.byteAt (off + 1)).toNat), s)) ∧
    (inside 4 → s.hostRead .w32 off
      = (BitVec.ofNat 32 ((s.byteAt off).toNat + 256 * (s.byteAt (off + 1)).toNat
          + 65536 * (s.byteAt (off + 2)).toNat + 16777216 * (s.byteAt (off + 3)).toNat), s)) ∧
    (inside 2 → ∀ i, off = pbufBase + 2 * i → s.hostRead .w16 off = ((s.cellAt i).setWidth 32, s)) ∧
    (inside 2 → ∀ a, off = pramBase + a → s.hostRead .w16 off = ((s.pram16 a).setWidth 32, s))

/-- A refused access: reads 0, writes nothing, sets BADACC and nothing else (R46, R47, R48). It is refused when unmapped,
when it is a register access that is not an aligned 32-bit one, and, while no command runs, when misaligned in PRAM or
PBUF or not inside the live buffer; an aligned access of PRAM that reaches past its end is refused in the same way by the
model's reading (log 26). That an access belongs to the region of its first byte is the model's choice (log 29). -/
def Obligations.BadAccessIsRefused : Prop :=
  ∀ (s : State) (w : Width) (off : Nat) (v : Word),
    (region s.params off = .unmapped ∨
     region s.params off = .regs ∧ (w ≠ .w32 ∨ off % 4 ≠ 0 ∨ s.readReg off = none) ∨
     s.busy = false ∧ (region s.params off = .pram ∨ region s.params off = .pbuf) ∧ off % w.bytes ≠ 0 ∨
     s.busy = false ∧ region s.params off = .pram ∧ pramBase + s.params.pramBytes < off + w.bytes ∨
     s.busy = false ∧ region s.params off = .pbuf ∧ s.bufValid = false ∨
     s.busy = false ∧ region s.params off = .pbuf ∧
       pbufBase + 2 * (s.bufW.toNat * s.bufH.toNat) < off + w.bytes) →
    s.hostRead w off = (0, { s with badAcc := true }) ∧ s.hostWrite w off v = { s with badAcc := true }

/-- While a command runs, every access of PRAM or PBUF reads 0, writes nothing and sets BUSYACC, not BADACC (R50). That
a misaligned one sets BUSYACC alone, and that an access belongs to the region of its first byte, is the model's choice
(logs 16 and 29). -/
def Obligations.BusyAccessIsRefused : Prop :=
  ∀ (s : State) (w : Width) (off : Nat) (v : Word), s.busy = true →
    (region s.params off = .pram ∨ region s.params off = .pbuf) →
    s.hostRead w off = (0, { s with busyAcc := true }) ∧ s.hostWrite w off v = { s with busyAcc := true }

/-- A CMD write: dropped with CMDOVF while a command runs; otherwise the command is accepted, with the snapshot of the
arguments and of GLYPH_OPAQUE, BUSY set and ERR kept (R22, R58). -/
def Obligations.CmdWriteIssuesOrOverflows : Prop :=
  ∀ (s : State) (v : Word),
    (s.busy = true → s.hostWrite .w32 0x004 v = { s with cmdOvf := true }) ∧
    (s.busy = false → s.hostWrite .w32 0x004 v =
      { s with snap := s.args, opaqueS := s.glyphOpaque, engine := .accepted (v.extractLsb' 0 8) }) ∧
    (s.hostWrite .w32 0x004 v).busy = true

/-- Register writes (R21, R25, R28, R35, R47): an ARG reads back all 32 bits, STATUS clears its sticky bits by ones, CTRL
keeps bit 0, MODESW_CNT clears, and a read-only register ignores the write; nothing else changes. -/
def Obligations.RegisterWrites : Prop :=
  ∀ (s : State) (v : Word),
    (∀ k, k < 8 →
      (∃ a, s.hostWrite .w32 (0x040 + 4 * k) v = { s with args := a } ∧
        ∀ j, j < 8 → Args.get a j = if j = k then v else Args.get s.args j) ∧
      ((s.hostWrite .w32 (0x040 + 4 * k) v).hostRead .w32 (0x040 + 4 * k)).1 = v) ∧
    s.hostWrite .w32 0x008 v =
      { s with
        cmdOvf := if v.getLsbD 16 then false else s.cmdOvf
        busyAcc := if v.getLsbD 17 then false else s.busyAcc
        badAcc := if v.getLsbD 18 then false else s.badAcc } ∧
    s.hostWrite .w32 0x00C v = { s with glyphOpaque := v.getLsbD 0 } ∧
    s.hostWrite .w32 0x028 v = { s with modeSwCnt := 0 } ∧
    ∀ off, off ∈ [0x000, 0x010, 0x014, 0x018, 0x01C, 0x020, 0x024] → s.hostWrite .w32 off v = s

/-- Reads of registers (R26 to R36): taken at any time, with no side effect, and each field at its bits. -/
def Obligations.RegisterReads : Prop :=
  ∀ s : State,
    (s.hostRead .w32 0x000 = (0x50500007, s)) ∧ (s.hostRead .w32 0x004 = (0, s)) ∧
    (s.hostRead .w32 0x008 =
      (BitVec.ofNat 32 (s.busy.toNat + 2 * s.bufValid.toNat + 256 * s.err.code.toNat + 65536 * s.cmdOvf.toNat
        + 131072 * s.busyAcc.toNat + 262144 * s.badAcc.toNat), s)) ∧
    (s.hostRead .w32 0x00C = (BitVec.ofNat 32 s.glyphOpaque.toNat, s)) ∧
    (s.hostRead .w32 0x010 = (s.res0, s)) ∧ (s.hostRead .w32 0x014 = (s.res1, s)) ∧
    (s.hostRead .w32 0x018 = (BitVec.ofNat 32 (s.bufW.toNat + 65536 * s.bufH.toNat), s)) ∧
    (s.hostRead .w32 0x01C =
      (BitVec.ofNat 32
        ((if s.initPhase = .reset then 1 else if s.init = false ∧ s.initPhase = .none then 0
          else if s.asleep = true then 4 else if s.bus16 = true then 3 else 2)
        + 256 * s.init.toNat + 512 * s.portrait.toNat + 1024 * s.bus16.toNat
        + 2048 * s.asleep.toNat), s)) ∧
    (s.hostRead .w32 0x020 = (BitVec.ofNat 32 (s.panelW.toNat + 65536 * s.panelH.toNat), s)) ∧
    (s.hostRead .w32 0x024 = (BitVec.ofNat 32 (s.blLevel.toNat + 65536 * s.blEn.toNat), s)) ∧
    (s.hostRead .w32 0x028 = (s.modeSwCnt, s)) ∧
    (∀ k, k < 8 → s.hostRead .w32 (0x040 + 4 * k) = (Args.get s.args k, s))

/-! ### The codec -/

/-- NOP completes with `E_OK` and does nothing (R71). -/
def Obligations.NopOnlyCompletes : Prop :=
  ∀ s : State, exec .nop s = .next { s with engine := .idle, err := .ok }

/-- PACK keeps the top 5, 6 and 5 bits of the channels and ignores the alpha lane (R70, R72). -/
def Obligations.PackTruncatesEachChannel : Prop :=
  ∀ (r g b a : Nat) (s : State), r < 256 → g < 256 → b < 256 →
    exec (.pack r g b a) s = .next
      { s with engine := .idle, err := .ok, res0 := BitVec.ofNat 32 (r / 8 * 2048 + g / 4 * 32 + b / 8) }

/-- PACKA: alpha 255 packs the channels, alpha 0 gives 0, and otherwise each channel is multiplied by a / 256 first
(R73). -/
def Obligations.PackAlphaPremultiplies : Prop :=
  ∀ (r g b a : Nat) (s : State), r < 256 → g < 256 → b < 256 → a < 256 →
    exec (.packA r g b a) s = .next
      { s with
        engine := .idle, err := .ok,
        res0 := BitVec.ofNat 32
          (if a = 255 then r / 8 * 2048 + g / 4 * 32 + b / 8
           else if a = 0 then 0
           else r * a / 256 / 8 * 2048 + g * a / 256 / 4 * 32 + b * a / 256 / 8) }

/-- UNPACK puts the raw 5, 6 and 5-bit channels into byte lanes 0, 1 and 2 (R70, R74). -/
def Obligations.UnpackGivesTheChannels : Prop :=
  ∀ (c : Color) (s : State),
    exec (.unpack c) s = .next
      { s with
        engine := .idle, err := .ok,
        res0 := BitVec.ofNat 32 (c.toNat / 2048 + c.toNat / 32 % 64 * 256 + c.toNat % 32 * 65536) }

/-! ### The buffer -/

/-- BUF_CREATE and BUF_CREATE_PANEL (R77, R78, R129): `E_BUFEXISTS` with a live buffer, then `E_ALLOC` when the exact
product is over MAX_CELLS; otherwise a live buffer of that size, PRAM unchanged, and nothing else but
the cells. -/
def Obligations.BufferCreation : Prop :=
  ∀ (s : State) (i : Instr) (w h : Nat),
    (i = .bufCreate w h ∧ w < 65536 ∧ h < 65536 ∨
      i = .bufCreatePanel ∧ w = s.panelW.toNat ∧ h = s.panelH.toNat) →
    (s.bufValid = true → exec i s = .next { s with engine := .idle, err := .bufExists }) ∧
    (s.bufValid = false → s.params.maxCells < w * h → exec i s = .next { s with engine := .idle, err := .alloc }) ∧
    (s.bufValid = false → w * h ≤ s.params.maxCells → ∃ m d,
      exec i s = .next
        { s with
          engine := .idle, err := .ok, bufValid := true, bufW := BitVec.ofNat 16 w, bufH := BitVec.ofNat 16 h,
          mem := m, pbDraw := d } ∧
      ∀ off, off < pbufBase → State.byteAt { s with mem := m, pbDraw := d } off = s.byteAt off)

/-- BUF_DESTROY: `E_NOBUF` without a live buffer; otherwise BUF_VALID and the size go to 0 and no byte changes (R79). -/
def Obligations.BufferDestruction : Prop :=
  ∀ s : State,
    (s.bufValid = false → exec .bufDestroy s = .next { s with engine := .idle, err := .noBuf }) ∧
    (s.bufValid = true →
      exec .bufDestroy s = .next { s with engine := .idle, err := .ok, bufValid := false, bufW := 0, bufH := 0 })

/-- BUF_FILL: `E_NOBUF` without a live buffer; otherwise every cell of the buffer holds the colour and nothing else
changes (R80). -/
def Obligations.FillSetsEveryCell : Prop :=
  ∀ (s : State) (c : Color),
    (s.bufValid = false → exec (.bufFill c) s = .next { s with engine := .idle, err := .noBuf }) ∧
    (s.bufValid = true → ∃ t, exec (.bufFill c) s = .next t ∧
      State.DrawnAs { s with engine := .idle, err := .ok } (fun _ _ => c) t)

/-! ### The rasterizer -/

/-- Without a live buffer every drawing command that writes cells, CHAR and TEXT among them, fails with `E_NOBUF` and
changes nothing else (R81). -/
def Obligations.DrawWithoutBufferFails : Prop :=
  ∀ (s : State) (i : Instr), s.bufValid = false →
    ((∃ x y c, i = .pixel x y c) ∨ (∃ x y w c, i = .hline x y w c) ∨ (∃ x y w c d, i = .hlineGrad x y w c d) ∨
     (∃ x y u v c, i = .line x y u v c) ∨ (∃ x y w h c, i = .rect x y w h c) ∨
     (∃ x y w h c, i = .rectFill x y w h c) ∨ (∃ a b c d e f k, i = .tri a b c d e f k) ∨
     (∃ a b c d e f k, i = .triFill a b c d e f k) ∨ (∃ a b c d e f k l m, i = .triGrad a b c d e f k l m) ∨
     (∃ x y r c, i = .circle x y r c) ∨ (∃ x y r c, i = .circleFill x y r c) ∨ (∃ x y n c, i = .poly x y n c) ∨
     (∃ x y k f b, i = .char x y k f b) ∨ (∃ x y o l f b, i = .text x y o l f b)) →
    exec i s = .next { s with engine := .idle, err := .noBuf }

/-- PIXEL, HLINE, RECT and RECT_FILL write exactly their cells that lie in the buffer (R82, R85, R86, R89, R90). -/
def Obligations.BoxesAndSpansDrawTheirCells : Prop :=
  ∀ (s : State) (x y w h : Int) (c : Color), s.bufValid = true →
    (∃ t, exec (.pixel x y c) s = .next t ∧ State.DrawnAs { s with engine := .idle, err := .ok }
      (fun px py => if (px : Int) = x ∧ (py : Int) = y then c else s.pixelAt px py) t) ∧
    (∃ t, exec (.hline x y w c) s = .next t ∧ State.DrawnAs { s with engine := .idle, err := .ok }
      (fun px py => if x ≤ px ∧ (px : Int) < x + w ∧ (py : Int) = y then c else s.pixelAt px py) t) ∧
    (∃ t, exec (.rectFill x y w h c) s = .next t ∧ State.DrawnAs { s with engine := .idle, err := .ok }
      (fun px py => if (x ≤ px ∧ (px : Int) < x + w) ∧ (y ≤ py ∧ (py : Int) < y + h) then c
        else s.pixelAt px py) t) ∧
    (∃ t, exec (.rect x y w h c) s = .next t ∧ State.DrawnAs { s with engine := .idle, err := .ok }
      (fun px py => if (x ≤ px ∧ (px : Int) < x + w) ∧ (y ≤ py ∧ (py : Int) < y + h) ∧
          ((px : Int) = x ∨ (px : Int) = x + w - 1 ∨ (py : Int) = y ∨ (py : Int) = y + h - 1) then c
        else s.pixelAt px py) t)

/-- HLINE_GRAD gives cell x + i the interpolated colour of step i, clipped or not (R83, R87). -/
def Obligations.GradientRowDrawsItsColours : Prop :=
  ∀ (s : State) (x y w : Int) (c0 c1 : Color), s.bufValid = true →
    ∃ t, exec (.hlineGrad x y w c0 c1) s = .next t ∧ State.DrawnAs { s with engine := .idle, err := .ok }
      (fun px py => if x ≤ px ∧ (px : Int) < x + w ∧ (py : Int) = y then gradColor w ((px : Int) - x) c0 c1
        else s.pixelAt px py) t

/-- What the machine interpolates stays between the two ends: every intercept along an edge (R97), every channel of a colour
along an edge (R97, R100), and every channel of every cell of a gradient row, whose first cell has exactly `c0` (R83). -/
def Obligations.InterpolationStaysBetweenTheEnds : Prop :=
  (∀ v0 v1 h k : Int, 0 ≤ k → k ≤ h →
    min v0 v1 ≤ interp v0 (slope (v1 - v0) h) k ∧ interp v0 (slope (v1 - v0) h) k ≤ max v0 v1) ∧
  (∀ (k0 k1 : Color) (h k : Int), 0 ≤ k → k ≤ h → Between k0 k1 (edgeColor k0 k1 h k)) ∧
  (∀ (x y w : Int) (c0 c1 : Color),
    (∀ p ∈ gradRow x y w c0 c1, Between c0 c1 p.c) ∧
    (1 ≤ w → (gradRow x y w c0 c1).head? = some ⟨x, y, c0⟩))

/-- LINE writes exactly the in-buffer cells its walk steps on (R84, R88). -/
def Obligations.LineDrawsItsWalk : Prop :=
  ∀ (s : State) (x0 y0 x1 y1 : Int) (c : Color), s.bufValid = true →
    ∃ t, exec (.line x0 y0 x1 y1 c) s = .next t ∧ State.DrawnAs { s with engine := .idle, err := .ok }
      (fun px py => if hasPoint (lineFn x0 y0 x1 y1 c) px py then c else s.pixelAt px py) t

/-- The walk of a line (R84): it starts at (x0, y0), ends at (x1, y1), takes `max(dx, dy) + 1` `PutPixel` calls of the
one colour, and each step moves x, y or both by one toward the end. Each cell is the one next to the ideal line on its minor
axis: the cell `a` x-steps and `b` y-steps from the start has `2·(a·dy − b·dx)` in (−dx, dx] when dy <= dx, and
`2·(b·dx − a·dy)` in (−dy, dy] when dx < dy, so that a tie does not take the minor step. -/
def Obligations.LineWalkReachesItsEnd : Prop :=
  ∀ (x0 y0 x1 y1 : Int) (c : Color),
    let dx := |x1 - x0|
    let dy := |y1 - y0|
    (lineFn x0 y0 x1 y1 c).head? = some ⟨x0, y0, c⟩ ∧
    (lineFn x0 y0 x1 y1 c).getLast? = some ⟨x1, y1, c⟩ ∧
    (lineFn x0 y0 x1 y1 c).length = (max dx dy).toNat + 1 ∧
    List.IsChain (fun p q : Pixel =>
        (q.x = p.x ∨ q.x = p.x + (x1 - x0).sign) ∧ (q.y = p.y ∨ q.y = p.y + (y1 - y0).sign) ∧
        (q.x ≠ p.x ∨ q.y ≠ p.y) ∧ q.c = p.c) (lineFn x0 y0 x1 y1 c) ∧
    ∀ p ∈ lineFn x0 y0 x1 y1 c,
      let a := |p.x - x0|
      let b := |p.y - y0|
      (dy ≤ dx → 0 < dx → -dx < 2 * (a * dy - b * dx) ∧ 2 * (a * dy - b * dx) ≤ dx) ∧
      (dx < dy → -dy < 2 * (b * dx - a * dy) ∧ 2 * (b * dx - a * dy) ≤ dy)

/-- The octant points of a circle of radius r >= 1 are exactly the integer points of the octant 0 <= y <= x whose x is
nearest to the circle: (x − 1/2)² < r² − y² + 1/4 <= (x + 1/2)² (R91); for r = 0 the walk visits (0, 0) once. -/
def Obligations.CircleWalkIsTheMidpointCircle : Prop :=
  circleWalk 0 = [(0, 0)] ∧
  ∀ r x y : Int, 1 ≤ r →
    ((x, y) ∈ circleWalk r ↔
      0 ≤ y ∧ y ≤ x ∧ x * x - x < r * r - y * y ∧ r * r - y * y ≤ x * x + x)

/-- CIRCLE writes the eight mirror images of each octant point, CIRCLE_FILL the spans between them, clipped; both draw
nothing for r < 0 (R92, R93). -/
def Obligations.CirclesDrawTheirMirrorImages : Prop :=
  ∀ (s : State) (cx cy r : Int) (c : Color), s.bufValid = true →
    (∃ t, exec (.circle cx cy r c) s = .next t ∧ State.DrawnAs { s with engine := .idle, err := .ok }
      (fun px py => if 0 ≤ r ∧ (circleWalk r).any (fun p =>
            decide (|(px : Int) - cx| = p.1 ∧ |(py : Int) - cy| = p.2) ||
            decide (|(px : Int) - cx| = p.2 ∧ |(py : Int) - cy| = p.1)) then c
        else s.pixelAt px py) t) ∧
    (∃ t, exec (.circleFill cx cy r c) s = .next t ∧ State.DrawnAs { s with engine := .idle, err := .ok }
      (fun px py => if 0 ≤ r ∧ (circleWalk r).any (fun p =>
            decide (|(px : Int) - cx| ≤ p.1 ∧ |(py : Int) - cy| = p.2) ||
            decide (|(px : Int) - cx| ≤ p.2 ∧ |(py : Int) - cy| = p.1)) then c
        else s.pixelAt px py) t)

/-- POLY: no-op for n < 3 before its range check, `E_ARG` for a misaligned array or one outside PRAM, and otherwise the
lines from each vertex to the next and from the last to the first (R94). -/
def Obligations.PolygonOutline : Prop :=
  ∀ (s : State) (xs ys n : Nat) (c : Color), s.bufValid = true →
    (n < 3 → exec (.poly xs ys n c) s = .next { s with engine := .idle, err := .ok }) ∧
    (3 ≤ n → (xs % 2 = 1 ∨ ys % 2 = 1 ∨ s.params.pramBytes < xs + 2 * n ∨ s.params.pramBytes < ys + 2 * n) →
      exec (.poly xs ys n c) s = .next { s with engine := .idle, err := .arg }) ∧
    (3 ≤ n → xs % 2 = 0 → ys % 2 = 0 → xs + 2 * n ≤ s.params.pramBytes → ys + 2 * n ≤ s.params.pramBytes →
      ∃ t, exec (.poly xs ys n c) s = .next t ∧ State.DrawnAs { s with engine := .idle, err := .ok }
        (fun px py => if (List.range n).any (fun k =>
            hasPoint (lineFn (s.pram16 (xs + 2 * k)).toInt (s.pram16 (ys + 2 * k)).toInt
              (s.pram16 (xs + 2 * ((k + 1) % n))).toInt (s.pram16 (ys + 2 * ((k + 1) % n))).toInt c) px py) then c
          else s.pixelAt px py) t)

/-- POLY_FILL reports the documented gap in every state, before any other check, and changes nothing else (R95). -/
def Obligations.PolygonFillIsUnimplemented : Prop :=
  ∀ s : State, exec .polyFill s = .next { s with engine := .idle, err := .unimpl }

/-! ### Triangles -/

/-- TRI draws the three lines P0→P1, P1→P2, P2→P0 (R98). -/
def Obligations.TriangleOutline : Prop :=
  ∀ (s : State) (x0 y0 x1 y1 x2 y2 : Int) (c : Color), s.bufValid = true →
    ∃ t, exec (.tri x0 y0 x1 y1 x2 y2 c) s = .next t ∧ State.DrawnAs { s with engine := .idle, err := .ok }
      (fun px py => if hasPoint (lineFn x0 y0 x1 y1 c) px py || hasPoint (lineFn x1 y1 x2 y2 c) px py
          || hasPoint (lineFn x2 y2 x0 y0 c) px py then c
        else s.pixelAt px py) t

/-- The vertex sort (R96): the same three vertices, by ascending y, and two of equal y in argument order. -/
def Obligations.VertexSortIsStable : Prop :=
  ∀ v0 v1 v2 : Vertex,
    (sort3 v0 v1 v2).1.y ≤ (sort3 v0 v1 v2).2.1.y ∧ (sort3 v0 v1 v2).2.1.y ≤ (sort3 v0 v1 v2).2.2.y ∧
    List.Perm [(sort3 v0 v1 v2).1, (sort3 v0 v1 v2).2.1, (sort3 v0 v1 v2).2.2] [v0, v1, v2] ∧
    ∀ y : Int, [(sort3 v0 v1 v2).1, (sort3 v0 v1 v2).2.1, (sort3 v0 v1 v2).2.2].filter (fun v => decide (v.y = y))
      = [v0, v1, v2].filter (fun v => decide (v.y = y))

/-- TRI_FILL: one span on each row from the top vertex to the bottom one, between the long edge's intercept and the
active short edge's, row b.y on the lower edge; with all y equal, one span from the least x to the greatest (R97, R99). -/
def Obligations.FilledTriangleRows : Prop :=
  ∀ (s : State) (x0 y0 x1 y1 x2 y2 : Int) (col : Color) (a b c : Vertex), s.bufValid = true →
    sort3 ⟨x0, y0, col⟩ ⟨x1, y1, col⟩ ⟨x2, y2, col⟩ = (a, b, c) →
    ∃ t, exec (.triFill x0 y0 x1 y1 x2 y2 col) s = .next t ∧ State.DrawnAs { s with engine := .idle, err := .ok }
      (fun px py =>
        let xl := edgeAt a.x (c.x - a.x) (c.y - a.y) (py - a.y)
        let xr := if (py : Int) < b.y then edgeAt a.x (b.x - a.x) (b.y - a.y) (py - a.y)
          else edgeAt b.x (c.x - b.x) (c.y - b.y) (py - b.y)
        if a.y ≤ py ∧ (py : Int) ≤ c.y ∧
            (if a.y = c.y then min x0 (min x1 x2) ≤ px ∧ (px : Int) ≤ max x0 (max x1 x2)
             else min xl xr ≤ px ∧ (px : Int) ≤ max xl xr) then col
        else s.pixelAt px py) t

/-- TRI_GRAD: the rows of TRI_FILL, each a gradient row between the colours interpolated along the two edges, channel by
channel, which swap with their ends; with all y equal, one gradient row between the colours of the first vertices of least
and greatest x (R97, R100). -/
def Obligations.GradientTriangleRows : Prop :=
  ∀ (s : State) (x0 y0 x1 y1 x2 y2 : Int) (k0 k1 k2 : Color) (a b c : Vertex), s.bufValid = true →
    sort3 ⟨x0, y0, k0⟩ ⟨x1, y1, k1⟩ ⟨x2, y2, k2⟩ = (a, b, c) →
    ∃ t, exec (.triGrad x0 y0 x1 y1 x2 y2 k0 k1 k2) s = .next t ∧
      State.DrawnAs { s with engine := .idle, err := .ok }
        (fun px py =>
          let lo := min x0 (min x1 x2)
          let hi := max x0 (max x1 x2)
          let xl := edgeAt a.x (c.x - a.x) (c.y - a.y) (py - a.y)
          let kl := edgeColorAt a.k c.k (c.y - a.y) (py - a.y)
          let xr := if (py : Int) < b.y then edgeAt a.x (b.x - a.x) (b.y - a.y) (py - a.y)
            else edgeAt b.x (c.x - b.x) (c.y - b.y) (py - b.y)
          let kr := if (py : Int) < b.y then edgeColorAt a.k b.k (b.y - a.y) (py - a.y)
            else edgeColorAt b.k c.k (c.y - b.y) (py - b.y)
          if a.y ≤ py ∧ (py : Int) ≤ c.y then
            if a.y = c.y then
              if lo ≤ px ∧ (px : Int) ≤ hi then
                gradColor (hi - lo + 1) (px - lo)
                  (if a.x = lo then a.k else if b.x = lo then b.k else c.k)
                  (if a.x = hi then a.k else if b.x = hi then b.k else c.k)
              else s.pixelAt px py
            else if min xl xr ≤ px ∧ (px : Int) ≤ max xl xr then
              if xl ≤ xr then gradColor (xr - xl + 1) (px - xl) kl kr
              else gradColor (xl - xr + 1) (px - xr) kr kl
            else s.pixelAt px py
          else s.pixelAt px py) t

/-- TRI_GRAD with three identical colours is TRI_FILL with that colour (R100). -/
def Obligations.GradientOfOneColourIsTheFill : Prop :=
  ∀ (s : State) (x0 y0 x1 y1 x2 y2 : Int) (k : Color),
    exec (.triGrad x0 y0 x1 y1 x2 y2 k k k) s = exec (.triFill x0 y0 x1 y1 x2 y2 k) s

/-! ### Text -/

/-- CHAR of a code point 32 to 126 (R101, R102, R104, R105): RES0 is the advance, a set bit of the glyph is the
foreground, a clear one the background when OPAQUE_S is set and the background is not TRANSPARENT, and nothing otherwise.
Bit `k` is bit 7 − k mod 8 of byte `bitmapIndex + k/8` of the bitmap, wherever the bitmap holds that byte. -/
def Obligations.CharDrawsItsGlyph : Prop :=
  ∀ (s : State) (x y : Int) (code : Nat) (fg bg : Color) (e : Glyph), s.bufValid = true →
    32 ≤ code → code ≤ 126 → s.font.glyphs.toList[code - 31]? = some e →
    (∀ (k : Nat) (b : Byte), s.font.bitmap[e.bitmapIndex + k / 8]? = some b →
      Font.glyphBit s.font e k = b.getLsbD (7 - k % 8)) ∧
    ∃ t, exec (.char x y code fg bg) s = .next t ∧
      State.DrawnAs { s with engine := .idle, err := .ok, res0 := BitVec.ofNat 32 (e.advW.toNat / 16) }
        (fun px py =>
          let i := (px : Int) - (x + e.ofsX.toInt)
          let j := (py : Int) - (y - e.boxH.toNat - e.ofsY.toInt)
          if 0 ≤ i ∧ i < e.boxW.toNat ∧ 0 ≤ j ∧ j < e.boxH.toNat then
            if Font.glyphBit s.font e (j.toNat * e.boxW.toNat + i.toNat) then fg
            else if s.opaqueS = true ∧ bg ≠ s.params.transparent then bg
            else s.pixelAt px py
          else s.pixelAt px py) t

/-- CHAR of any other code draws the 12 by 16 placeholder at (x + 1, y − 16), its clear cells in the background unless
that is TRANSPARENT, whatever OPAQUE_S is, and RES0 is PH_ADVANCE (R103, R104, R105). The numbers 0xFFFF and 14 of R104
are those two parameters of R9. -/
def Obligations.CharDrawsThePlaceholder : Prop :=
  ∀ (s : State) (x y : Int) (code : Nat) (fg bg : Color), s.bufValid = true → (code < 32 ∨ 126 < code) →
    ∃ t, exec (.char x y code fg bg) s = .next t ∧
      State.DrawnAs { s with engine := .idle, err := .ok, res0 := s.params.phAdvance.setWidth 32 }
        (fun px py =>
          let i := (px : Int) - (x + 1)
          let j := (py : Int) - (y - 16)
          if 0 ≤ i ∧ i < 12 ∧ 0 ≤ j ∧ j < 16 then
            if (s.params.placeholder.toList.getD j.toNat 0).getMsbD i.toNat then fg
            else if bg ≠ s.params.transparent then bg
            else s.pixelAt px py
          else s.pixelAt px py) t

/-- With a live buffer TEXT completes for every string inside PRAM, and fails with `E_ARG` for any other (R106, R129). The pen starts at
(x, y); a newline takes it to `x` and down by the line height and LINE_GAP, a carriage return to `x`, and any other code is
drawn as CHAR draws it, at the pen, which moves right by CHAR's advance (R104, R105). RES0 and RES1 are the last pen, and no
byte outside the live buffer's cells changes (R81). -/
def Obligations.TextDrawsCharacterByCharacter : Prop :=
  ∀ (s : State) (x y : Int) (off len : Nat) (fg bg : Color), s.bufValid = true →
    (s.params.pramBytes < off + len →
      exec (.text x y off len fg bg) s = .next { s with engine := .idle, err := .arg }) ∧
    (off + len ≤ s.params.pramBytes → ∃ (pen : Nat → Int × Int) (m : Nat → Mem),
      exec (.text x y off len fg bg) s = .next
        { s with
          engine := .idle, err := .ok, res0 := BitVec.ofInt 32 (pen len).1,
          res1 := BitVec.ofInt 32 (pen len).2, mem := m len } ∧
      (∀ a, a < pbufBase ∨ pbufBase + 2 * (s.bufW.toNat * s.bufH.toNat) ≤ a →
        State.byteAt { s with mem := m len } a = s.byteAt a) ∧
      pen 0 = (x, y) ∧ m 0 = s.mem ∧
      ∀ k, k < len →
        (s.pram8 (off + k) = 10 →
          pen (k + 1) = (x, (pen k).2 + s.font.lineHeight.toNat + s.params.lineGap) ∧ m (k + 1) = m k) ∧
        (s.pram8 (off + k) = 13 → pen (k + 1) = (x, (pen k).2) ∧ m (k + 1) = m k) ∧
        (s.pram8 (off + k) ≠ 10 → s.pram8 (off + k) ≠ 13 → ∃ adv : Nat, adv < 65536 ∧
          exec (.char (pen k).1 (pen k).2 (s.pram8 (off + k)).toNat fg bg) { s with mem := m k } = .next
            { s with engine := .idle, err := .ok, res0 := BitVec.ofNat 32 adv, mem := m (k + 1) } ∧
          pen (k + 1) = ((pen k).1 + adv, (pen k).2)))

/-- TEXT_WIDTH: `E_ARG` when the string does not lie in PRAM; otherwise RES0 is the sum of the advances of the code points
32 to 126, everything else counting 0, with or without a buffer (R107). -/
def Obligations.TextWidthSumsTheAdvances : Prop :=
  ∀ (s : State) (off len : Nat),
    (s.params.pramBytes < off + len → exec (.textWidth off len) s = .next { s with engine := .idle, err := .arg }) ∧
    (off + len ≤ s.params.pramBytes → exec (.textWidth off len) s = .next
      { s with
        engine := .idle, err := .ok,
        res0 := BitVec.ofNat 32 (((List.range len).map (fun i =>
          if 32 ≤ (s.pram8 (off + i)).toNat ∧ (s.pram8 (off + i)).toNat ≤ 126 then
            (s.font.glyphs.toList.getD ((s.pram8 (off + i)).toNat - 31) default).advW.toNat / 16
          else 0)).sum) })

/-! ### The panel transport -/

/-- Before P_INIT the six commands of R116 fail with `E_NOTINIT`, emit nothing and change nothing else (R116, R129). -/
def Obligations.TransportNeedsInit : Prop :=
  ∀ (s : State) (i : Instr), s.init = false →
    ((∃ p, i = .pOrient p) ∨ i = .pSleep ∨ i = .pWake ∨ (∃ v, i = .pBright v) ∨ (∃ p, i = .pBrightPct p) ∨
      (∃ x y, i = .pDraw x y)) →
    exec i s = .next { s with engine := .idle, err := .notInit }

/-- P_INIT (R117): nothing but completion when initialized; otherwise, on a bus without faults, its event sequence and
its final state. The bytes, the delays and BL_MAX are the parameters of R9. -/
def Obligations.PanelInit : Prop :=
  ∀ (s : State) (p : Bool) (d : Nat),
    (s.init = true → exec (.pInit p d) s = .next { s with engine := .idle, err := .ok }) ∧
    (s.init = false → s.BusOk → exec (.pInit p d) s = .next
      { s with
        engine := .idle, err := .ok, init := true, initPhase := .none, asleep := false, portrait := p,
        panelW := if p then s.params.portraitW else s.params.landscapeW,
        panelH := if p then s.params.portraitH else s.params.landscapeH, sckDiv := BitVec.ofNat 16 d,
        blEn := true, blLevel := s.params.blMax, bus16 := true, modeSwCnt := s.modeSwCnt + (if s.bus16 then 2 else 1),
        pins := ⟨true, true, true, false, s.params.opDispon.getLsbD 0⟩,
        bus := s.bus.drop (8 + s.params.gammaParams.length + s.params.colmodParams.length
          + s.params.frmctrParams.length),
        wire :=
          ([WireEvent.bl true s.params.blMax] ++ narrowing s.bus16
            ++ [WireEvent.cs true, WireEvent.dc true, WireEvent.rst true, WireEvent.rst false,
                WireEvent.wait s.params.tRstLow, WireEvent.rst true, WireEvent.wait s.params.tRstHigh]
            ++ panelCmdEvents s.params.opSwreset [] ++ [WireEvent.wait s.params.tSwreset]
            ++ panelCmdEvents s.params.opGamset s.params.gammaParams
            ++ panelCmdEvents s.params.opMadctl [if p then s.params.madctlPortrait else s.params.madctlLandscape]
            ++ panelCmdEvents s.params.opColmod s.params.colmodParams
            ++ panelCmdEvents s.params.opFrmctr s.params.frmctrParams
            ++ panelCmdEvents s.params.opSlpout [] ++ [WireEvent.wait s.params.tSlpout]
            ++ panelCmdEvents s.params.opDispon []
            ++ [WireEvent.bl true s.params.blMax, WireEvent.width true]).reverse ++ s.wire })

/-- P_DEINIT (R118): nothing but completion when not initialized; otherwise display off and sleep in unless asleep, and
the backlight off at level 0. -/
def Obligations.PanelDeinit : Prop :=
  ∀ s : State,
    (s.init = false → exec .pDeinit s = .next { s with engine := .idle, err := .ok }) ∧
    (s.init = true → s.asleep = true → exec .pDeinit s = .next
      { s with
        engine := .idle, err := .ok, init := false, asleep := false, blEn := false, blLevel := 0,
        wire := WireEvent.bl false 0 :: s.wire }) ∧
    (s.init = true → s.asleep = false → s.BusOk → exec .pDeinit s = .next
      { s with
        engine := .idle, err := .ok, init := false, asleep := false, blEn := false, blLevel := 0,
        bus16 := false, modeSwCnt := s.modeSwCnt + (if s.bus16 then 1 else 0),
        pins := { s.pins with csN := true, dc := true, sck := false, mosi := s.params.opSlpin.getLsbD 0 },
        bus := s.bus.drop 2,
        wire := (narrowing s.bus16 ++ panelCmdEvents s.params.opDispoff [] ++ panelCmdEvents s.params.opSlpin []
          ++ [WireEvent.wait s.params.tSlpin, WireEvent.bl false 0]).reverse ++ s.wire })

/-- P_ORIENT (R115, R119): the orientation, the panel's size and the MADCTL command, even when nothing changes. -/
def Obligations.PanelOrient : Prop :=
  ∀ (s : State) (p : Bool), s.init = true → s.BusOk →
    exec (.pOrient p) s = .next
      { s with
        engine := .idle, err := .ok, portrait := p,
        panelW := if p then s.params.portraitW else s.params.landscapeW,
        panelH := if p then s.params.portraitH else s.params.landscapeH,
        bus16 := false, modeSwCnt := s.modeSwCnt + (if s.bus16 then 1 else 0), bus := s.bus.drop 2,
        pins :=
          { s.pins with
            csN := true, dc := true, sck := false,
            mosi := (if p then s.params.madctlPortrait else s.params.madctlLandscape).getLsbD 0 },
        wire := (narrowing s.bus16 ++ panelCmdEvents s.params.opMadctl
          [if p then s.params.madctlPortrait else s.params.madctlLandscape]).reverse ++ s.wire }

/-- P_SLEEP and P_WAKE (R120, R121): no-ops in the target state; otherwise their sequences, ASLEEP and BL_EN, and what the
sequence itself changes: the bus width with its counter, and the pins. -/
def Obligations.PanelSleepAndWake : Prop :=
  ∀ s : State, s.init = true →
    (s.asleep = true → exec .pSleep s = .next { s with engine := .idle, err := .ok }) ∧
    (s.asleep = false → exec .pWake s = .next { s with engine := .idle, err := .ok }) ∧
    (s.asleep = false → s.BusOk → exec .pSleep s = .next
      { s with
        engine := .idle, err := .ok, asleep := true, blEn := false, bus16 := false,
        modeSwCnt := s.modeSwCnt + (if s.bus16 then 1 else 0),
        pins := { s.pins with csN := true, dc := true, sck := false, mosi := s.params.opSlpin.getLsbD 0 },
        bus := s.bus.drop 2,
        wire := (narrowing s.bus16 ++ panelCmdEvents s.params.opDispoff [] ++ panelCmdEvents s.params.opSlpin []
          ++ [WireEvent.wait s.params.tSlpin, WireEvent.bl false s.blLevel]).reverse ++ s.wire }) ∧
    (s.asleep = true → s.BusOk → exec .pWake s = .next
      { s with
        engine := .idle, err := .ok, asleep := false, blEn := decide (s.blLevel ≠ 0), bus16 := false,
        modeSwCnt := s.modeSwCnt + (if s.bus16 then 1 else 0),
        pins := { s.pins with csN := true, dc := true, sck := false, mosi := s.params.opDispon.getLsbD 0 },
        bus := s.bus.drop 2,
        wire := (narrowing s.bus16 ++ panelCmdEvents s.params.opSlpout [] ++ [WireEvent.wait s.params.tSlpout]
          ++ panelCmdEvents s.params.opDispon []
          ++ [WireEvent.bl (decide (s.blLevel ≠ 0)) s.blLevel]).reverse ++ s.wire })

/-- P_BRIGHT and P_BRIGHT_PCT (R122, R123): the level, or the clamped percentage of full scale, and exactly one event; off
at level 0 and while asleep. They send no word, so no bus outcome matters. The duty cycle is the level's share of full
scale, or 0 when the backlight is off (R114). Full scale is BL_MAX (R9). -/
def Obligations.PanelBrightness : Prop :=
  ∀ (s : State) (v p : Nat), s.init = true → v < 65536 →
    exec (.pBright v) s = .next
      { s with
        engine := .idle, err := .ok, blLevel := BitVec.ofNat 16 v, blEn := decide (v ≠ 0) && !s.asleep,
        wire := WireEvent.bl (decide (v ≠ 0) && !s.asleep) (BitVec.ofNat 16 v) :: s.wire } ∧
    (∀ t, exec (.pBright v) s = .next t →
      t.duty = if v ≠ 0 ∧ s.asleep = false then (v : Rat) / (s.params.blMax.toNat : Rat) else 0) ∧
    exec (.pBrightPct p) s = exec (.pBright (min p 100 * s.params.blMax.toNat / 100)) s

/-- P_DRAW (R124): `E_NOBUF` without a buffer, nothing for an empty one; otherwise, on a bus without faults, the window
as big-endian bounds, whose ends wrap mod 2^16, and the cells in row-major order in one burst. -/
def Obligations.PanelDraw : Prop :=
  ∀ (s : State) (x y : Nat), s.init = true → x < 65536 → y < 65536 →
    (s.bufValid = false → exec (.pDraw x y) s = .next { s with engine := .idle, err := .noBuf }) ∧
    (s.bufValid = true → (s.bufW = 0 ∨ s.bufH = 0) →
      exec (.pDraw x y) s = .next { s with engine := .idle, err := .ok }) ∧
    (s.bufValid = true → s.bufW ≠ 0 → s.bufH ≠ 0 → s.BusOk →
      ∃ cells : List Half, cells.length = s.bufW.toNat * s.bufH.toNat ∧
        (∀ k, k < s.bufW.toNat * s.bufH.toNat → cells[k]? = some (s.cellAt k)) ∧
        let xe := (x + s.bufW.toNat - 1) % 65536
        let ye := (y + s.bufH.toNat - 1) % 65536
        exec (.pDraw x y) s = .next
          { s with
            engine := .idle, err := .ok, bus16 := true, modeSwCnt := s.modeSwCnt + (if s.bus16 then 2 else 1),
            pins := { s.pins with csN := true, dc := true, sck := false, mosi := (cells.getLastD 0).getLsbD 0 },
            bus := s.bus.drop (11 + s.bufW.toNat * s.bufH.toNat),
            wire :=
              (narrowing s.bus16
                ++ panelCmdEvents s.params.opCaset [BitVec.ofNat 8 (x / 256), BitVec.ofNat 8 x,
                    BitVec.ofNat 8 (xe / 256), BitVec.ofNat 8 xe]
                ++ panelCmdEvents s.params.opPaset [BitVec.ofNat 8 (y / 256), BitVec.ofNat 8 y,
                    BitVec.ofNat 8 (ye / 256), BitVec.ofNat 8 ye]
                ++ [WireEvent.dc false, WireEvent.cs false, WireEvent.w8 s.params.opRamwr, WireEvent.dc true,
                    WireEvent.width true]
                ++ cells.map WireEvent.w16 ++ [WireEvent.cs true]).reverse ++ s.wire })

/-- A word of a transport sequence (R130): with outcome `ok`, or none listed, it is appended and the sequence goes on. One
that fails or stalls is not: the trace holds exactly the events before it, then `CS(1)` for a failure, which
completes with `E_BUS`; a stall leaves the engine stalled; all else stays. Stated for any word, wherever in a sequence it
stands. The list of outcomes, and that a stalled word is not appended, are the model's choice (logs 3 and 18). -/
def Obligations.BusWordOutcomes : Prop :=
  ∀ (isInit : Bool) (s : State) (a : Act) (rest : List Act), ((∃ b, a = .word8 b) ∨ (∃ h, a = .word16 h)) →
    (s.bus.head? = none ∨ s.bus.head? = some .ok →
      (∀ b, a = .word8 b → runActs isInit (a :: rest) s = runActs isInit rest
        { s with bus := s.bus.tail, wire := .w8 b :: s.wire,
                 pins := { s.pins with sck := false, mosi := b.getLsbD 0 } }) ∧
      (∀ h, a = .word16 h → runActs isInit (a :: rest) s = runActs isInit rest
        { s with bus := s.bus.tail, wire := .w16 h :: s.wire,
                 pins := { s.pins with sck := false, mosi := h.getLsbD 0 } })) ∧
    (s.bus.head? = some .fail → ∃ (mosi : Bool) (d : Nat), runActs isInit (a :: rest) s =
      { s with
        engine := .idle, err := .bus, bus := s.bus.tail, wire := .cs true :: s.wire,
        pins := { s.pins with csN := true, mosi := mosi }, wordDraw := d,
        initPhase := if isInit then .none else s.initPhase }) ∧
    (s.bus.head? = some .stall → ∃ (sck mosi : Bool) (d : Nat), runActs isInit (a :: rest) s =
      { s with
        engine := .stalled, bus := s.bus.tail, pins := { s.pins with sck := sck, mosi := mosi }, wordDraw := d })

/-- A 16-bit word puts on MOSI the bits of its high byte and then of its low byte, each most significant first (R45,
R109). -/
def Obligations.PixelWordGoesHighByteFirst : Prop :=
  ∀ h : Half, mosiBits (.w16 h) = mosiBits (.w8 (h.extractLsb' 8 8)) ++ mosiBits (.w8 (h.extractLsb' 0 8)) ∧
    ∀ b : Byte, mosiBits (.w8 b)
      = [b.getLsbD 7, b.getLsbD 6, b.getLsbD 5, b.getLsbD 4, b.getLsbD 3, b.getLsbD 2, b.getLsbD 1, b.getLsbD 0]
end

