-- ==== Sys2Proof/Laws/State.lean ====
section
/-! SUPPORT. For each named update of the state, what every field holds after it. -/

namespace Sys2Proof.Machine

variable (s : State)

/-! ### `State.complete` -/

@[simp] theorem State.complete_args (e : Err) : (s.complete e).args = s.args := rfl
@[simp] theorem State.complete_snap (e : Err) : (s.complete e).snap = s.snap := rfl
@[simp] theorem State.complete_opaqueS (e : Err) : (s.complete e).opaqueS = s.opaqueS := rfl
@[simp] theorem State.complete_glyphOpaque (e : Err) : (s.complete e).glyphOpaque = s.glyphOpaque := rfl
@[simp] theorem State.complete_res0 (e : Err) : (s.complete e).res0 = s.res0 := rfl
@[simp] theorem State.complete_res1 (e : Err) : (s.complete e).res1 = s.res1 := rfl
@[simp] theorem State.complete_engine (e : Err) : (s.complete e).engine = .idle := rfl
@[simp] theorem State.complete_bufValid (e : Err) : (s.complete e).bufValid = s.bufValid := rfl
@[simp] theorem State.complete_bufW (e : Err) : (s.complete e).bufW = s.bufW := rfl
@[simp] theorem State.complete_bufH (e : Err) : (s.complete e).bufH = s.bufH := rfl
@[simp] theorem State.complete_err (e : Err) : (s.complete e).err = e := rfl
@[simp] theorem State.complete_cmdOvf (e : Err) : (s.complete e).cmdOvf = s.cmdOvf := rfl
@[simp] theorem State.complete_busyAcc (e : Err) : (s.complete e).busyAcc = s.busyAcc := rfl
@[simp] theorem State.complete_badAcc (e : Err) : (s.complete e).badAcc = s.badAcc := rfl
@[simp] theorem State.complete_init (e : Err) : (s.complete e).init = s.init := rfl
@[simp] theorem State.complete_initPhase (e : Err) : (s.complete e).initPhase = s.initPhase := rfl
@[simp] theorem State.complete_portrait (e : Err) : (s.complete e).portrait = s.portrait := rfl
@[simp] theorem State.complete_panelW (e : Err) : (s.complete e).panelW = s.panelW := rfl
@[simp] theorem State.complete_panelH (e : Err) : (s.complete e).panelH = s.panelH := rfl
@[simp] theorem State.complete_bus16 (e : Err) : (s.complete e).bus16 = s.bus16 := rfl
@[simp] theorem State.complete_asleep (e : Err) : (s.complete e).asleep = s.asleep := rfl
@[simp] theorem State.complete_blEn (e : Err) : (s.complete e).blEn = s.blEn := rfl
@[simp] theorem State.complete_blLevel (e : Err) : (s.complete e).blLevel = s.blLevel := rfl
@[simp] theorem State.complete_sckDiv (e : Err) : (s.complete e).sckDiv = s.sckDiv := rfl
@[simp] theorem State.complete_modeSwCnt (e : Err) : (s.complete e).modeSwCnt = s.modeSwCnt := rfl
@[simp] theorem State.complete_pins (e : Err) : (s.complete e).pins = s.pins := rfl
@[simp] theorem State.complete_wire (e : Err) : (s.complete e).wire = s.wire := rfl
@[simp] theorem State.complete_mem (e : Err) : (s.complete e).mem = s.mem := rfl
@[simp] theorem State.complete_pramDraw (e : Err) : (s.complete e).pramDraw = s.pramDraw := rfl
@[simp] theorem State.complete_pbDraw (e : Err) : (s.complete e).pbDraw = s.pbDraw := rfl
@[simp] theorem State.complete_wordDraw (e : Err) : (s.complete e).wordDraw = s.wordDraw := rfl
@[simp] theorem State.complete_params (e : Err) : (s.complete e).params = s.params := rfl
@[simp] theorem State.complete_font (e : Err) : (s.complete e).font = s.font := rfl
@[simp] theorem State.complete_inputs (e : Err) : (s.complete e).inputs = s.inputs := rfl
@[simp] theorem State.complete_bus (e : Err) : (s.complete e).bus = s.bus := rfl
@[simp] theorem State.complete_readLog (e : Err) : (s.complete e).readLog = s.readLog := rfl

/-! ### `State.completeRes0` -/

@[simp] theorem State.completeRes0_args (v : Word) : (s.completeRes0 v).args = s.args := rfl
@[simp] theorem State.completeRes0_snap (v : Word) : (s.completeRes0 v).snap = s.snap := rfl
@[simp] theorem State.completeRes0_opaqueS (v : Word) : (s.completeRes0 v).opaqueS = s.opaqueS := rfl
@[simp] theorem State.completeRes0_glyphOpaque (v : Word) : (s.completeRes0 v).glyphOpaque = s.glyphOpaque := rfl
@[simp] theorem State.completeRes0_res0 (v : Word) : (s.completeRes0 v).res0 = v := rfl
@[simp] theorem State.completeRes0_res1 (v : Word) : (s.completeRes0 v).res1 = s.res1 := rfl
@[simp] theorem State.completeRes0_engine (v : Word) : (s.completeRes0 v).engine = .idle := rfl
@[simp] theorem State.completeRes0_bufValid (v : Word) : (s.completeRes0 v).bufValid = s.bufValid := rfl
@[simp] theorem State.completeRes0_bufW (v : Word) : (s.completeRes0 v).bufW = s.bufW := rfl
@[simp] theorem State.completeRes0_bufH (v : Word) : (s.completeRes0 v).bufH = s.bufH := rfl
@[simp] theorem State.completeRes0_err (v : Word) : (s.completeRes0 v).err = .ok := rfl
@[simp] theorem State.completeRes0_cmdOvf (v : Word) : (s.completeRes0 v).cmdOvf = s.cmdOvf := rfl
@[simp] theorem State.completeRes0_busyAcc (v : Word) : (s.completeRes0 v).busyAcc = s.busyAcc := rfl
@[simp] theorem State.completeRes0_badAcc (v : Word) : (s.completeRes0 v).badAcc = s.badAcc := rfl
@[simp] theorem State.completeRes0_init (v : Word) : (s.completeRes0 v).init = s.init := rfl
@[simp] theorem State.completeRes0_initPhase (v : Word) : (s.completeRes0 v).initPhase = s.initPhase := rfl
@[simp] theorem State.completeRes0_portrait (v : Word) : (s.completeRes0 v).portrait = s.portrait := rfl
@[simp] theorem State.completeRes0_panelW (v : Word) : (s.completeRes0 v).panelW = s.panelW := rfl
@[simp] theorem State.completeRes0_panelH (v : Word) : (s.completeRes0 v).panelH = s.panelH := rfl
@[simp] theorem State.completeRes0_bus16 (v : Word) : (s.completeRes0 v).bus16 = s.bus16 := rfl
@[simp] theorem State.completeRes0_asleep (v : Word) : (s.completeRes0 v).asleep = s.asleep := rfl
@[simp] theorem State.completeRes0_blEn (v : Word) : (s.completeRes0 v).blEn = s.blEn := rfl
@[simp] theorem State.completeRes0_blLevel (v : Word) : (s.completeRes0 v).blLevel = s.blLevel := rfl
@[simp] theorem State.completeRes0_sckDiv (v : Word) : (s.completeRes0 v).sckDiv = s.sckDiv := rfl
@[simp] theorem State.completeRes0_modeSwCnt (v : Word) : (s.completeRes0 v).modeSwCnt = s.modeSwCnt := rfl
@[simp] theorem State.completeRes0_pins (v : Word) : (s.completeRes0 v).pins = s.pins := rfl
@[simp] theorem State.completeRes0_wire (v : Word) : (s.completeRes0 v).wire = s.wire := rfl
@[simp] theorem State.completeRes0_mem (v : Word) : (s.completeRes0 v).mem = s.mem := rfl
@[simp] theorem State.completeRes0_pramDraw (v : Word) : (s.completeRes0 v).pramDraw = s.pramDraw := rfl
@[simp] theorem State.completeRes0_pbDraw (v : Word) : (s.completeRes0 v).pbDraw = s.pbDraw := rfl
@[simp] theorem State.completeRes0_wordDraw (v : Word) : (s.completeRes0 v).wordDraw = s.wordDraw := rfl
@[simp] theorem State.completeRes0_params (v : Word) : (s.completeRes0 v).params = s.params := rfl
@[simp] theorem State.completeRes0_font (v : Word) : (s.completeRes0 v).font = s.font := rfl
@[simp] theorem State.completeRes0_inputs (v : Word) : (s.completeRes0 v).inputs = s.inputs := rfl
@[simp] theorem State.completeRes0_bus (v : Word) : (s.completeRes0 v).bus = s.bus := rfl
@[simp] theorem State.completeRes0_readLog (v : Word) : (s.completeRes0 v).readLog = s.readLog := rfl

/-! ### `State.completeRes01` -/

@[simp] theorem State.completeRes01_args (v w : Word) : (s.completeRes01 v w).args = s.args := rfl
@[simp] theorem State.completeRes01_snap (v w : Word) : (s.completeRes01 v w).snap = s.snap := rfl
@[simp] theorem State.completeRes01_opaqueS (v w : Word) : (s.completeRes01 v w).opaqueS = s.opaqueS := rfl
@[simp] theorem State.completeRes01_glyphOpaque (v w : Word) : (s.completeRes01 v w).glyphOpaque = s.glyphOpaque := rfl
@[simp] theorem State.completeRes01_res0 (v w : Word) : (s.completeRes01 v w).res0 = v := rfl
@[simp] theorem State.completeRes01_res1 (v w : Word) : (s.completeRes01 v w).res1 = w := rfl
@[simp] theorem State.completeRes01_engine (v w : Word) : (s.completeRes01 v w).engine = .idle := rfl
@[simp] theorem State.completeRes01_bufValid (v w : Word) : (s.completeRes01 v w).bufValid = s.bufValid := rfl
@[simp] theorem State.completeRes01_bufW (v w : Word) : (s.completeRes01 v w).bufW = s.bufW := rfl
@[simp] theorem State.completeRes01_bufH (v w : Word) : (s.completeRes01 v w).bufH = s.bufH := rfl
@[simp] theorem State.completeRes01_err (v w : Word) : (s.completeRes01 v w).err = .ok := rfl
@[simp] theorem State.completeRes01_cmdOvf (v w : Word) : (s.completeRes01 v w).cmdOvf = s.cmdOvf := rfl
@[simp] theorem State.completeRes01_busyAcc (v w : Word) : (s.completeRes01 v w).busyAcc = s.busyAcc := rfl
@[simp] theorem State.completeRes01_badAcc (v w : Word) : (s.completeRes01 v w).badAcc = s.badAcc := rfl
@[simp] theorem State.completeRes01_init (v w : Word) : (s.completeRes01 v w).init = s.init := rfl
@[simp] theorem State.completeRes01_initPhase (v w : Word) : (s.completeRes01 v w).initPhase = s.initPhase := rfl
@[simp] theorem State.completeRes01_portrait (v w : Word) : (s.completeRes01 v w).portrait = s.portrait := rfl
@[simp] theorem State.completeRes01_panelW (v w : Word) : (s.completeRes01 v w).panelW = s.panelW := rfl
@[simp] theorem State.completeRes01_panelH (v w : Word) : (s.completeRes01 v w).panelH = s.panelH := rfl
@[simp] theorem State.completeRes01_bus16 (v w : Word) : (s.completeRes01 v w).bus16 = s.bus16 := rfl
@[simp] theorem State.completeRes01_asleep (v w : Word) : (s.completeRes01 v w).asleep = s.asleep := rfl
@[simp] theorem State.completeRes01_blEn (v w : Word) : (s.completeRes01 v w).blEn = s.blEn := rfl
@[simp] theorem State.completeRes01_blLevel (v w : Word) : (s.completeRes01 v w).blLevel = s.blLevel := rfl
@[simp] theorem State.completeRes01_sckDiv (v w : Word) : (s.completeRes01 v w).sckDiv = s.sckDiv := rfl
@[simp] theorem State.completeRes01_modeSwCnt (v w : Word) : (s.completeRes01 v w).modeSwCnt = s.modeSwCnt := rfl
@[simp] theorem State.completeRes01_pins (v w : Word) : (s.completeRes01 v w).pins = s.pins := rfl
@[simp] theorem State.completeRes01_wire (v w : Word) : (s.completeRes01 v w).wire = s.wire := rfl
@[simp] theorem State.completeRes01_mem (v w : Word) : (s.completeRes01 v w).mem = s.mem := rfl
@[simp] theorem State.completeRes01_pramDraw (v w : Word) : (s.completeRes01 v w).pramDraw = s.pramDraw := rfl
@[simp] theorem State.completeRes01_pbDraw (v w : Word) : (s.completeRes01 v w).pbDraw = s.pbDraw := rfl
@[simp] theorem State.completeRes01_wordDraw (v w : Word) : (s.completeRes01 v w).wordDraw = s.wordDraw := rfl
@[simp] theorem State.completeRes01_params (v w : Word) : (s.completeRes01 v w).params = s.params := rfl
@[simp] theorem State.completeRes01_font (v w : Word) : (s.completeRes01 v w).font = s.font := rfl
@[simp] theorem State.completeRes01_inputs (v w : Word) : (s.completeRes01 v w).inputs = s.inputs := rfl
@[simp] theorem State.completeRes01_bus (v w : Word) : (s.completeRes01 v w).bus = s.bus := rfl
@[simp] theorem State.completeRes01_readLog (v w : Word) : (s.completeRes01 v w).readLog = s.readLog := rfl

/-! ### `State.plot` -/

@[simp] theorem State.plot_args (ps : List Pixel) : (s.plot ps).args = s.args := rfl
@[simp] theorem State.plot_snap (ps : List Pixel) : (s.plot ps).snap = s.snap := rfl
@[simp] theorem State.plot_opaqueS (ps : List Pixel) : (s.plot ps).opaqueS = s.opaqueS := rfl
@[simp] theorem State.plot_glyphOpaque (ps : List Pixel) : (s.plot ps).glyphOpaque = s.glyphOpaque := rfl
@[simp] theorem State.plot_res0 (ps : List Pixel) : (s.plot ps).res0 = s.res0 := rfl
@[simp] theorem State.plot_res1 (ps : List Pixel) : (s.plot ps).res1 = s.res1 := rfl
@[simp] theorem State.plot_engine (ps : List Pixel) : (s.plot ps).engine = s.engine := rfl
@[simp] theorem State.plot_bufValid (ps : List Pixel) : (s.plot ps).bufValid = s.bufValid := rfl
@[simp] theorem State.plot_bufW (ps : List Pixel) : (s.plot ps).bufW = s.bufW := rfl
@[simp] theorem State.plot_bufH (ps : List Pixel) : (s.plot ps).bufH = s.bufH := rfl
@[simp] theorem State.plot_err (ps : List Pixel) : (s.plot ps).err = s.err := rfl
@[simp] theorem State.plot_cmdOvf (ps : List Pixel) : (s.plot ps).cmdOvf = s.cmdOvf := rfl
@[simp] theorem State.plot_busyAcc (ps : List Pixel) : (s.plot ps).busyAcc = s.busyAcc := rfl
@[simp] theorem State.plot_badAcc (ps : List Pixel) : (s.plot ps).badAcc = s.badAcc := rfl
@[simp] theorem State.plot_init (ps : List Pixel) : (s.plot ps).init = s.init := rfl
@[simp] theorem State.plot_initPhase (ps : List Pixel) : (s.plot ps).initPhase = s.initPhase := rfl
@[simp] theorem State.plot_portrait (ps : List Pixel) : (s.plot ps).portrait = s.portrait := rfl
@[simp] theorem State.plot_panelW (ps : List Pixel) : (s.plot ps).panelW = s.panelW := rfl
@[simp] theorem State.plot_panelH (ps : List Pixel) : (s.plot ps).panelH = s.panelH := rfl
@[simp] theorem State.plot_bus16 (ps : List Pixel) : (s.plot ps).bus16 = s.bus16 := rfl
@[simp] theorem State.plot_asleep (ps : List Pixel) : (s.plot ps).asleep = s.asleep := rfl
@[simp] theorem State.plot_blEn (ps : List Pixel) : (s.plot ps).blEn = s.blEn := rfl
@[simp] theorem State.plot_blLevel (ps : List Pixel) : (s.plot ps).blLevel = s.blLevel := rfl
@[simp] theorem State.plot_sckDiv (ps : List Pixel) : (s.plot ps).sckDiv = s.sckDiv := rfl
@[simp] theorem State.plot_modeSwCnt (ps : List Pixel) : (s.plot ps).modeSwCnt = s.modeSwCnt := rfl
@[simp] theorem State.plot_pins (ps : List Pixel) : (s.plot ps).pins = s.pins := rfl
@[simp] theorem State.plot_wire (ps : List Pixel) : (s.plot ps).wire = s.wire := rfl
@[simp] theorem State.plot_mem (ps : List Pixel) : (s.plot ps).mem = ps.foldl (Mem.putPixel s.bufW.toNat s.bufH.toNat) s.mem := rfl
@[simp] theorem State.plot_pramDraw (ps : List Pixel) : (s.plot ps).pramDraw = s.pramDraw := rfl
@[simp] theorem State.plot_pbDraw (ps : List Pixel) : (s.plot ps).pbDraw = s.pbDraw := rfl
@[simp] theorem State.plot_wordDraw (ps : List Pixel) : (s.plot ps).wordDraw = s.wordDraw := rfl
@[simp] theorem State.plot_params (ps : List Pixel) : (s.plot ps).params = s.params := rfl
@[simp] theorem State.plot_font (ps : List Pixel) : (s.plot ps).font = s.font := rfl
@[simp] theorem State.plot_inputs (ps : List Pixel) : (s.plot ps).inputs = s.inputs := rfl
@[simp] theorem State.plot_bus (ps : List Pixel) : (s.plot ps).bus = s.bus := rfl
@[simp] theorem State.plot_readLog (ps : List Pixel) : (s.plot ps).readLog = s.readLog := rfl

/-! ### `State.redrawPbuf` -/

@[simp] theorem State.redrawPbuf_args : (s.redrawPbuf).args = s.args := rfl
@[simp] theorem State.redrawPbuf_snap : (s.redrawPbuf).snap = s.snap := rfl
@[simp] theorem State.redrawPbuf_opaqueS : (s.redrawPbuf).opaqueS = s.opaqueS := rfl
@[simp] theorem State.redrawPbuf_glyphOpaque : (s.redrawPbuf).glyphOpaque = s.glyphOpaque := rfl
@[simp] theorem State.redrawPbuf_res0 : (s.redrawPbuf).res0 = s.res0 := rfl
@[simp] theorem State.redrawPbuf_res1 : (s.redrawPbuf).res1 = s.res1 := rfl
@[simp] theorem State.redrawPbuf_engine : (s.redrawPbuf).engine = s.engine := rfl
@[simp] theorem State.redrawPbuf_bufValid : (s.redrawPbuf).bufValid = s.bufValid := rfl
@[simp] theorem State.redrawPbuf_bufW : (s.redrawPbuf).bufW = s.bufW := rfl
@[simp] theorem State.redrawPbuf_bufH : (s.redrawPbuf).bufH = s.bufH := rfl
@[simp] theorem State.redrawPbuf_err : (s.redrawPbuf).err = s.err := rfl
@[simp] theorem State.redrawPbuf_cmdOvf : (s.redrawPbuf).cmdOvf = s.cmdOvf := rfl
@[simp] theorem State.redrawPbuf_busyAcc : (s.redrawPbuf).busyAcc = s.busyAcc := rfl
@[simp] theorem State.redrawPbuf_badAcc : (s.redrawPbuf).badAcc = s.badAcc := rfl
@[simp] theorem State.redrawPbuf_init : (s.redrawPbuf).init = s.init := rfl
@[simp] theorem State.redrawPbuf_initPhase : (s.redrawPbuf).initPhase = s.initPhase := rfl
@[simp] theorem State.redrawPbuf_portrait : (s.redrawPbuf).portrait = s.portrait := rfl
@[simp] theorem State.redrawPbuf_panelW : (s.redrawPbuf).panelW = s.panelW := rfl
@[simp] theorem State.redrawPbuf_panelH : (s.redrawPbuf).panelH = s.panelH := rfl
@[simp] theorem State.redrawPbuf_bus16 : (s.redrawPbuf).bus16 = s.bus16 := rfl
@[simp] theorem State.redrawPbuf_asleep : (s.redrawPbuf).asleep = s.asleep := rfl
@[simp] theorem State.redrawPbuf_blEn : (s.redrawPbuf).blEn = s.blEn := rfl
@[simp] theorem State.redrawPbuf_blLevel : (s.redrawPbuf).blLevel = s.blLevel := rfl
@[simp] theorem State.redrawPbuf_sckDiv : (s.redrawPbuf).sckDiv = s.sckDiv := rfl
@[simp] theorem State.redrawPbuf_modeSwCnt : (s.redrawPbuf).modeSwCnt = s.modeSwCnt := rfl
@[simp] theorem State.redrawPbuf_pins : (s.redrawPbuf).pins = s.pins := rfl
@[simp] theorem State.redrawPbuf_wire : (s.redrawPbuf).wire = s.wire := rfl
@[simp] theorem State.redrawPbuf_mem : (s.redrawPbuf).mem = s.mem.filter (fun e => e.1 < pbufBase) := rfl
@[simp] theorem State.redrawPbuf_pramDraw : (s.redrawPbuf).pramDraw = s.pramDraw := rfl
@[simp] theorem State.redrawPbuf_pbDraw : (s.redrawPbuf).pbDraw = s.pbDraw + 1 := rfl
@[simp] theorem State.redrawPbuf_wordDraw : (s.redrawPbuf).wordDraw = s.wordDraw := rfl
@[simp] theorem State.redrawPbuf_params : (s.redrawPbuf).params = s.params := rfl
@[simp] theorem State.redrawPbuf_font : (s.redrawPbuf).font = s.font := rfl
@[simp] theorem State.redrawPbuf_inputs : (s.redrawPbuf).inputs = s.inputs := rfl
@[simp] theorem State.redrawPbuf_bus : (s.redrawPbuf).bus = s.bus := rfl
@[simp] theorem State.redrawPbuf_readLog : (s.redrawPbuf).readLog = s.readLog := rfl

/-! ### `State.emit` -/

@[simp] theorem State.emit_args (e : WireEvent) : (s.emit e).args = s.args := rfl
@[simp] theorem State.emit_snap (e : WireEvent) : (s.emit e).snap = s.snap := rfl
@[simp] theorem State.emit_opaqueS (e : WireEvent) : (s.emit e).opaqueS = s.opaqueS := rfl
@[simp] theorem State.emit_glyphOpaque (e : WireEvent) : (s.emit e).glyphOpaque = s.glyphOpaque := rfl
@[simp] theorem State.emit_res0 (e : WireEvent) : (s.emit e).res0 = s.res0 := rfl
@[simp] theorem State.emit_res1 (e : WireEvent) : (s.emit e).res1 = s.res1 := rfl
@[simp] theorem State.emit_engine (e : WireEvent) : (s.emit e).engine = s.engine := rfl
@[simp] theorem State.emit_bufValid (e : WireEvent) : (s.emit e).bufValid = s.bufValid := rfl
@[simp] theorem State.emit_bufW (e : WireEvent) : (s.emit e).bufW = s.bufW := rfl
@[simp] theorem State.emit_bufH (e : WireEvent) : (s.emit e).bufH = s.bufH := rfl
@[simp] theorem State.emit_err (e : WireEvent) : (s.emit e).err = s.err := rfl
@[simp] theorem State.emit_cmdOvf (e : WireEvent) : (s.emit e).cmdOvf = s.cmdOvf := rfl
@[simp] theorem State.emit_busyAcc (e : WireEvent) : (s.emit e).busyAcc = s.busyAcc := rfl
@[simp] theorem State.emit_badAcc (e : WireEvent) : (s.emit e).badAcc = s.badAcc := rfl
@[simp] theorem State.emit_init (e : WireEvent) : (s.emit e).init = s.init := rfl
@[simp] theorem State.emit_initPhase (e : WireEvent) : (s.emit e).initPhase = s.initPhase := rfl
@[simp] theorem State.emit_portrait (e : WireEvent) : (s.emit e).portrait = s.portrait := rfl
@[simp] theorem State.emit_panelW (e : WireEvent) : (s.emit e).panelW = s.panelW := rfl
@[simp] theorem State.emit_panelH (e : WireEvent) : (s.emit e).panelH = s.panelH := rfl
@[simp] theorem State.emit_bus16 (e : WireEvent) : (s.emit e).bus16 = s.bus16 := rfl
@[simp] theorem State.emit_asleep (e : WireEvent) : (s.emit e).asleep = s.asleep := rfl
@[simp] theorem State.emit_blEn (e : WireEvent) : (s.emit e).blEn = s.blEn := rfl
@[simp] theorem State.emit_blLevel (e : WireEvent) : (s.emit e).blLevel = s.blLevel := rfl
@[simp] theorem State.emit_sckDiv (e : WireEvent) : (s.emit e).sckDiv = s.sckDiv := rfl
@[simp] theorem State.emit_modeSwCnt (e : WireEvent) : (s.emit e).modeSwCnt = s.modeSwCnt := rfl
@[simp] theorem State.emit_pins (e : WireEvent) : (s.emit e).pins = s.pins.after e := rfl
@[simp] theorem State.emit_wire (e : WireEvent) : (s.emit e).wire = e :: s.wire := rfl
@[simp] theorem State.emit_mem (e : WireEvent) : (s.emit e).mem = s.mem := rfl
@[simp] theorem State.emit_pramDraw (e : WireEvent) : (s.emit e).pramDraw = s.pramDraw := rfl
@[simp] theorem State.emit_pbDraw (e : WireEvent) : (s.emit e).pbDraw = s.pbDraw := rfl
@[simp] theorem State.emit_wordDraw (e : WireEvent) : (s.emit e).wordDraw = s.wordDraw := rfl
@[simp] theorem State.emit_params (e : WireEvent) : (s.emit e).params = s.params := rfl
@[simp] theorem State.emit_font (e : WireEvent) : (s.emit e).font = s.font := rfl
@[simp] theorem State.emit_inputs (e : WireEvent) : (s.emit e).inputs = s.inputs := rfl
@[simp] theorem State.emit_bus (e : WireEvent) : (s.emit e).bus = s.bus := rfl
@[simp] theorem State.emit_readLog (e : WireEvent) : (s.emit e).readLog = s.readLog := rfl

/-! ### `State.switchWidth` -/

@[simp] theorem State.switchWidth_args (w : Bool) : (s.switchWidth w).args = s.args := rfl
@[simp] theorem State.switchWidth_snap (w : Bool) : (s.switchWidth w).snap = s.snap := rfl
@[simp] theorem State.switchWidth_opaqueS (w : Bool) : (s.switchWidth w).opaqueS = s.opaqueS := rfl
@[simp] theorem State.switchWidth_glyphOpaque (w : Bool) : (s.switchWidth w).glyphOpaque = s.glyphOpaque := rfl
@[simp] theorem State.switchWidth_res0 (w : Bool) : (s.switchWidth w).res0 = s.res0 := rfl
@[simp] theorem State.switchWidth_res1 (w : Bool) : (s.switchWidth w).res1 = s.res1 := rfl
@[simp] theorem State.switchWidth_engine (w : Bool) : (s.switchWidth w).engine = s.engine := rfl
@[simp] theorem State.switchWidth_bufValid (w : Bool) : (s.switchWidth w).bufValid = s.bufValid := rfl
@[simp] theorem State.switchWidth_bufW (w : Bool) : (s.switchWidth w).bufW = s.bufW := rfl
@[simp] theorem State.switchWidth_bufH (w : Bool) : (s.switchWidth w).bufH = s.bufH := rfl
@[simp] theorem State.switchWidth_err (w : Bool) : (s.switchWidth w).err = s.err := rfl
@[simp] theorem State.switchWidth_cmdOvf (w : Bool) : (s.switchWidth w).cmdOvf = s.cmdOvf := rfl
@[simp] theorem State.switchWidth_busyAcc (w : Bool) : (s.switchWidth w).busyAcc = s.busyAcc := rfl
@[simp] theorem State.switchWidth_badAcc (w : Bool) : (s.switchWidth w).badAcc = s.badAcc := rfl
@[simp] theorem State.switchWidth_init (w : Bool) : (s.switchWidth w).init = s.init := rfl
@[simp] theorem State.switchWidth_initPhase (w : Bool) : (s.switchWidth w).initPhase = s.initPhase := rfl
@[simp] theorem State.switchWidth_portrait (w : Bool) : (s.switchWidth w).portrait = s.portrait := rfl
@[simp] theorem State.switchWidth_panelW (w : Bool) : (s.switchWidth w).panelW = s.panelW := rfl
@[simp] theorem State.switchWidth_panelH (w : Bool) : (s.switchWidth w).panelH = s.panelH := rfl
@[simp] theorem State.switchWidth_bus16 (w : Bool) : (s.switchWidth w).bus16 = w := rfl
@[simp] theorem State.switchWidth_asleep (w : Bool) : (s.switchWidth w).asleep = s.asleep := rfl
@[simp] theorem State.switchWidth_blEn (w : Bool) : (s.switchWidth w).blEn = s.blEn := rfl
@[simp] theorem State.switchWidth_blLevel (w : Bool) : (s.switchWidth w).blLevel = s.blLevel := rfl
@[simp] theorem State.switchWidth_sckDiv (w : Bool) : (s.switchWidth w).sckDiv = s.sckDiv := rfl
@[simp] theorem State.switchWidth_modeSwCnt (w : Bool) : (s.switchWidth w).modeSwCnt = s.modeSwCnt + 1 := rfl
@[simp] theorem State.switchWidth_pins (w : Bool) : (s.switchWidth w).pins = s.pins := rfl
@[simp] theorem State.switchWidth_wire (w : Bool) : (s.switchWidth w).wire = .width w :: s.wire := rfl
@[simp] theorem State.switchWidth_mem (w : Bool) : (s.switchWidth w).mem = s.mem := rfl
@[simp] theorem State.switchWidth_pramDraw (w : Bool) : (s.switchWidth w).pramDraw = s.pramDraw := rfl
@[simp] theorem State.switchWidth_pbDraw (w : Bool) : (s.switchWidth w).pbDraw = s.pbDraw := rfl
@[simp] theorem State.switchWidth_wordDraw (w : Bool) : (s.switchWidth w).wordDraw = s.wordDraw := rfl
@[simp] theorem State.switchWidth_params (w : Bool) : (s.switchWidth w).params = s.params := rfl
@[simp] theorem State.switchWidth_font (w : Bool) : (s.switchWidth w).font = s.font := rfl
@[simp] theorem State.switchWidth_inputs (w : Bool) : (s.switchWidth w).inputs = s.inputs := rfl
@[simp] theorem State.switchWidth_bus (w : Bool) : (s.switchWidth w).bus = s.bus := rfl
@[simp] theorem State.switchWidth_readLog (w : Bool) : (s.switchWidth w).readLog = s.readLog := rfl

/-! ### `State.busFail` -/

@[simp] theorem State.busFail_args (b : Bool) : (s.busFail b).args = s.args := rfl
@[simp] theorem State.busFail_snap (b : Bool) : (s.busFail b).snap = s.snap := rfl
@[simp] theorem State.busFail_opaqueS (b : Bool) : (s.busFail b).opaqueS = s.opaqueS := rfl
@[simp] theorem State.busFail_glyphOpaque (b : Bool) : (s.busFail b).glyphOpaque = s.glyphOpaque := rfl
@[simp] theorem State.busFail_res0 (b : Bool) : (s.busFail b).res0 = s.res0 := rfl
@[simp] theorem State.busFail_res1 (b : Bool) : (s.busFail b).res1 = s.res1 := rfl
@[simp] theorem State.busFail_engine (b : Bool) : (s.busFail b).engine = .idle := rfl
@[simp] theorem State.busFail_bufValid (b : Bool) : (s.busFail b).bufValid = s.bufValid := rfl
@[simp] theorem State.busFail_bufW (b : Bool) : (s.busFail b).bufW = s.bufW := rfl
@[simp] theorem State.busFail_bufH (b : Bool) : (s.busFail b).bufH = s.bufH := rfl
@[simp] theorem State.busFail_err (b : Bool) : (s.busFail b).err = .bus := rfl
@[simp] theorem State.busFail_cmdOvf (b : Bool) : (s.busFail b).cmdOvf = s.cmdOvf := rfl
@[simp] theorem State.busFail_busyAcc (b : Bool) : (s.busFail b).busyAcc = s.busyAcc := rfl
@[simp] theorem State.busFail_badAcc (b : Bool) : (s.busFail b).badAcc = s.badAcc := rfl
@[simp] theorem State.busFail_init (b : Bool) : (s.busFail b).init = s.init := rfl
@[simp] theorem State.busFail_initPhase (b : Bool) : (s.busFail b).initPhase = if b then .none else s.initPhase := rfl
@[simp] theorem State.busFail_portrait (b : Bool) : (s.busFail b).portrait = s.portrait := rfl
@[simp] theorem State.busFail_panelW (b : Bool) : (s.busFail b).panelW = s.panelW := rfl
@[simp] theorem State.busFail_panelH (b : Bool) : (s.busFail b).panelH = s.panelH := rfl
@[simp] theorem State.busFail_bus16 (b : Bool) : (s.busFail b).bus16 = s.bus16 := rfl
@[simp] theorem State.busFail_asleep (b : Bool) : (s.busFail b).asleep = s.asleep := rfl
@[simp] theorem State.busFail_blEn (b : Bool) : (s.busFail b).blEn = s.blEn := rfl
@[simp] theorem State.busFail_blLevel (b : Bool) : (s.busFail b).blLevel = s.blLevel := rfl
@[simp] theorem State.busFail_sckDiv (b : Bool) : (s.busFail b).sckDiv = s.sckDiv := rfl
@[simp] theorem State.busFail_modeSwCnt (b : Bool) : (s.busFail b).modeSwCnt = s.modeSwCnt := rfl
@[simp] theorem State.busFail_pins (b : Bool) : (s.busFail b).pins = { s.pins with csN := true, mosi := Config.freeMosi s.wordDraw } := rfl
@[simp] theorem State.busFail_wire (b : Bool) : (s.busFail b).wire = .cs true :: s.wire := rfl
@[simp] theorem State.busFail_mem (b : Bool) : (s.busFail b).mem = s.mem := rfl
@[simp] theorem State.busFail_pramDraw (b : Bool) : (s.busFail b).pramDraw = s.pramDraw := rfl
@[simp] theorem State.busFail_pbDraw (b : Bool) : (s.busFail b).pbDraw = s.pbDraw := rfl
@[simp] theorem State.busFail_wordDraw (b : Bool) : (s.busFail b).wordDraw = s.wordDraw + 1 := rfl
@[simp] theorem State.busFail_params (b : Bool) : (s.busFail b).params = s.params := rfl
@[simp] theorem State.busFail_font (b : Bool) : (s.busFail b).font = s.font := rfl
@[simp] theorem State.busFail_inputs (b : Bool) : (s.busFail b).inputs = s.inputs := rfl
@[simp] theorem State.busFail_bus (b : Bool) : (s.busFail b).bus = s.bus := rfl
@[simp] theorem State.busFail_readLog (b : Bool) : (s.busFail b).readLog = s.readLog := rfl

/-! ### `State.busStall` -/

@[simp] theorem State.busStall_args : (s.busStall).args = s.args := rfl
@[simp] theorem State.busStall_snap : (s.busStall).snap = s.snap := rfl
@[simp] theorem State.busStall_opaqueS : (s.busStall).opaqueS = s.opaqueS := rfl
@[simp] theorem State.busStall_glyphOpaque : (s.busStall).glyphOpaque = s.glyphOpaque := rfl
@[simp] theorem State.busStall_res0 : (s.busStall).res0 = s.res0 := rfl
@[simp] theorem State.busStall_res1 : (s.busStall).res1 = s.res1 := rfl
@[simp] theorem State.busStall_engine : (s.busStall).engine = .stalled := rfl
@[simp] theorem State.busStall_bufValid : (s.busStall).bufValid = s.bufValid := rfl
@[simp] theorem State.busStall_bufW : (s.busStall).bufW = s.bufW := rfl
@[simp] theorem State.busStall_bufH : (s.busStall).bufH = s.bufH := rfl
@[simp] theorem State.busStall_err : (s.busStall).err = s.err := rfl
@[simp] theorem State.busStall_cmdOvf : (s.busStall).cmdOvf = s.cmdOvf := rfl
@[simp] theorem State.busStall_busyAcc : (s.busStall).busyAcc = s.busyAcc := rfl
@[simp] theorem State.busStall_badAcc : (s.busStall).badAcc = s.badAcc := rfl
@[simp] theorem State.busStall_init : (s.busStall).init = s.init := rfl
@[simp] theorem State.busStall_initPhase : (s.busStall).initPhase = s.initPhase := rfl
@[simp] theorem State.busStall_portrait : (s.busStall).portrait = s.portrait := rfl
@[simp] theorem State.busStall_panelW : (s.busStall).panelW = s.panelW := rfl
@[simp] theorem State.busStall_panelH : (s.busStall).panelH = s.panelH := rfl
@[simp] theorem State.busStall_bus16 : (s.busStall).bus16 = s.bus16 := rfl
@[simp] theorem State.busStall_asleep : (s.busStall).asleep = s.asleep := rfl
@[simp] theorem State.busStall_blEn : (s.busStall).blEn = s.blEn := rfl
@[simp] theorem State.busStall_blLevel : (s.busStall).blLevel = s.blLevel := rfl
@[simp] theorem State.busStall_sckDiv : (s.busStall).sckDiv = s.sckDiv := rfl
@[simp] theorem State.busStall_modeSwCnt : (s.busStall).modeSwCnt = s.modeSwCnt := rfl
@[simp] theorem State.busStall_pins : (s.busStall).pins = { s.pins with sck := Config.freeSck s.wordDraw, mosi := Config.freeMosi s.wordDraw } := rfl
@[simp] theorem State.busStall_wire : (s.busStall).wire = s.wire := rfl
@[simp] theorem State.busStall_mem : (s.busStall).mem = s.mem := rfl
@[simp] theorem State.busStall_pramDraw : (s.busStall).pramDraw = s.pramDraw := rfl
@[simp] theorem State.busStall_pbDraw : (s.busStall).pbDraw = s.pbDraw := rfl
@[simp] theorem State.busStall_wordDraw : (s.busStall).wordDraw = s.wordDraw + 1 := rfl
@[simp] theorem State.busStall_params : (s.busStall).params = s.params := rfl
@[simp] theorem State.busStall_font : (s.busStall).font = s.font := rfl
@[simp] theorem State.busStall_inputs : (s.busStall).inputs = s.inputs := rfl
@[simp] theorem State.busStall_bus : (s.busStall).bus = s.bus := rfl
@[simp] theorem State.busStall_readLog : (s.busStall).readLog = s.readLog := rfl

/-! ### `State.accept` -/

@[simp] theorem State.accept_args (op : Byte) : (s.accept op).args = s.args := rfl
@[simp] theorem State.accept_snap (op : Byte) : (s.accept op).snap = s.args := rfl
@[simp] theorem State.accept_opaqueS (op : Byte) : (s.accept op).opaqueS = s.glyphOpaque := rfl
@[simp] theorem State.accept_glyphOpaque (op : Byte) : (s.accept op).glyphOpaque = s.glyphOpaque := rfl
@[simp] theorem State.accept_res0 (op : Byte) : (s.accept op).res0 = s.res0 := rfl
@[simp] theorem State.accept_res1 (op : Byte) : (s.accept op).res1 = s.res1 := rfl
@[simp] theorem State.accept_engine (op : Byte) : (s.accept op).engine = .accepted op := rfl
@[simp] theorem State.accept_bufValid (op : Byte) : (s.accept op).bufValid = s.bufValid := rfl
@[simp] theorem State.accept_bufW (op : Byte) : (s.accept op).bufW = s.bufW := rfl
@[simp] theorem State.accept_bufH (op : Byte) : (s.accept op).bufH = s.bufH := rfl
@[simp] theorem State.accept_err (op : Byte) : (s.accept op).err = s.err := rfl
@[simp] theorem State.accept_cmdOvf (op : Byte) : (s.accept op).cmdOvf = s.cmdOvf := rfl
@[simp] theorem State.accept_busyAcc (op : Byte) : (s.accept op).busyAcc = s.busyAcc := rfl
@[simp] theorem State.accept_badAcc (op : Byte) : (s.accept op).badAcc = s.badAcc := rfl
@[simp] theorem State.accept_init (op : Byte) : (s.accept op).init = s.init := rfl
@[simp] theorem State.accept_initPhase (op : Byte) : (s.accept op).initPhase = s.initPhase := rfl
@[simp] theorem State.accept_portrait (op : Byte) : (s.accept op).portrait = s.portrait := rfl
@[simp] theorem State.accept_panelW (op : Byte) : (s.accept op).panelW = s.panelW := rfl
@[simp] theorem State.accept_panelH (op : Byte) : (s.accept op).panelH = s.panelH := rfl
@[simp] theorem State.accept_bus16 (op : Byte) : (s.accept op).bus16 = s.bus16 := rfl
@[simp] theorem State.accept_asleep (op : Byte) : (s.accept op).asleep = s.asleep := rfl
@[simp] theorem State.accept_blEn (op : Byte) : (s.accept op).blEn = s.blEn := rfl
@[simp] theorem State.accept_blLevel (op : Byte) : (s.accept op).blLevel = s.blLevel := rfl
@[simp] theorem State.accept_sckDiv (op : Byte) : (s.accept op).sckDiv = s.sckDiv := rfl
@[simp] theorem State.accept_modeSwCnt (op : Byte) : (s.accept op).modeSwCnt = s.modeSwCnt := rfl
@[simp] theorem State.accept_pins (op : Byte) : (s.accept op).pins = s.pins := rfl
@[simp] theorem State.accept_wire (op : Byte) : (s.accept op).wire = s.wire := rfl
@[simp] theorem State.accept_mem (op : Byte) : (s.accept op).mem = s.mem := rfl
@[simp] theorem State.accept_pramDraw (op : Byte) : (s.accept op).pramDraw = s.pramDraw := rfl
@[simp] theorem State.accept_pbDraw (op : Byte) : (s.accept op).pbDraw = s.pbDraw := rfl
@[simp] theorem State.accept_wordDraw (op : Byte) : (s.accept op).wordDraw = s.wordDraw := rfl
@[simp] theorem State.accept_params (op : Byte) : (s.accept op).params = s.params := rfl
@[simp] theorem State.accept_font (op : Byte) : (s.accept op).font = s.font := rfl
@[simp] theorem State.accept_inputs (op : Byte) : (s.accept op).inputs = s.inputs := rfl
@[simp] theorem State.accept_bus (op : Byte) : (s.accept op).bus = s.bus := rfl
@[simp] theorem State.accept_readLog (op : Byte) : (s.accept op).readLog = s.readLog := rfl

/-! ### `State.clearSticky` -/

@[simp] theorem State.clearSticky_args (v : Word) : (s.clearSticky v).args = s.args := rfl
@[simp] theorem State.clearSticky_snap (v : Word) : (s.clearSticky v).snap = s.snap := rfl
@[simp] theorem State.clearSticky_opaqueS (v : Word) : (s.clearSticky v).opaqueS = s.opaqueS := rfl
@[simp] theorem State.clearSticky_glyphOpaque (v : Word) : (s.clearSticky v).glyphOpaque = s.glyphOpaque := rfl
@[simp] theorem State.clearSticky_res0 (v : Word) : (s.clearSticky v).res0 = s.res0 := rfl
@[simp] theorem State.clearSticky_res1 (v : Word) : (s.clearSticky v).res1 = s.res1 := rfl
@[simp] theorem State.clearSticky_engine (v : Word) : (s.clearSticky v).engine = s.engine := rfl
@[simp] theorem State.clearSticky_bufValid (v : Word) : (s.clearSticky v).bufValid = s.bufValid := rfl
@[simp] theorem State.clearSticky_bufW (v : Word) : (s.clearSticky v).bufW = s.bufW := rfl
@[simp] theorem State.clearSticky_bufH (v : Word) : (s.clearSticky v).bufH = s.bufH := rfl
@[simp] theorem State.clearSticky_err (v : Word) : (s.clearSticky v).err = s.err := rfl
@[simp] theorem State.clearSticky_cmdOvf (v : Word) : (s.clearSticky v).cmdOvf = (s.cmdOvf && !v.getLsbD 16) := rfl
@[simp] theorem State.clearSticky_busyAcc (v : Word) : (s.clearSticky v).busyAcc = (s.busyAcc && !v.getLsbD 17) := rfl
@[simp] theorem State.clearSticky_badAcc (v : Word) : (s.clearSticky v).badAcc = (s.badAcc && !v.getLsbD 18) := rfl
@[simp] theorem State.clearSticky_init (v : Word) : (s.clearSticky v).init = s.init := rfl
@[simp] theorem State.clearSticky_initPhase (v : Word) : (s.clearSticky v).initPhase = s.initPhase := rfl
@[simp] theorem State.clearSticky_portrait (v : Word) : (s.clearSticky v).portrait = s.portrait := rfl
@[simp] theorem State.clearSticky_panelW (v : Word) : (s.clearSticky v).panelW = s.panelW := rfl
@[simp] theorem State.clearSticky_panelH (v : Word) : (s.clearSticky v).panelH = s.panelH := rfl
@[simp] theorem State.clearSticky_bus16 (v : Word) : (s.clearSticky v).bus16 = s.bus16 := rfl
@[simp] theorem State.clearSticky_asleep (v : Word) : (s.clearSticky v).asleep = s.asleep := rfl
@[simp] theorem State.clearSticky_blEn (v : Word) : (s.clearSticky v).blEn = s.blEn := rfl
@[simp] theorem State.clearSticky_blLevel (v : Word) : (s.clearSticky v).blLevel = s.blLevel := rfl
@[simp] theorem State.clearSticky_sckDiv (v : Word) : (s.clearSticky v).sckDiv = s.sckDiv := rfl
@[simp] theorem State.clearSticky_modeSwCnt (v : Word) : (s.clearSticky v).modeSwCnt = s.modeSwCnt := rfl
@[simp] theorem State.clearSticky_pins (v : Word) : (s.clearSticky v).pins = s.pins := rfl
@[simp] theorem State.clearSticky_wire (v : Word) : (s.clearSticky v).wire = s.wire := rfl
@[simp] theorem State.clearSticky_mem (v : Word) : (s.clearSticky v).mem = s.mem := rfl
@[simp] theorem State.clearSticky_pramDraw (v : Word) : (s.clearSticky v).pramDraw = s.pramDraw := rfl
@[simp] theorem State.clearSticky_pbDraw (v : Word) : (s.clearSticky v).pbDraw = s.pbDraw := rfl
@[simp] theorem State.clearSticky_wordDraw (v : Word) : (s.clearSticky v).wordDraw = s.wordDraw := rfl
@[simp] theorem State.clearSticky_params (v : Word) : (s.clearSticky v).params = s.params := rfl
@[simp] theorem State.clearSticky_font (v : Word) : (s.clearSticky v).font = s.font := rfl
@[simp] theorem State.clearSticky_inputs (v : Word) : (s.clearSticky v).inputs = s.inputs := rfl
@[simp] theorem State.clearSticky_bus (v : Word) : (s.clearSticky v).bus = s.bus := rfl
@[simp] theorem State.clearSticky_readLog (v : Word) : (s.clearSticky v).readLog = s.readLog := rfl

/-! ### `State.refuseBad` -/

@[simp] theorem State.refuseBad_args : (s.refuseBad).args = s.args := rfl
@[simp] theorem State.refuseBad_snap : (s.refuseBad).snap = s.snap := rfl
@[simp] theorem State.refuseBad_opaqueS : (s.refuseBad).opaqueS = s.opaqueS := rfl
@[simp] theorem State.refuseBad_glyphOpaque : (s.refuseBad).glyphOpaque = s.glyphOpaque := rfl
@[simp] theorem State.refuseBad_res0 : (s.refuseBad).res0 = s.res0 := rfl
@[simp] theorem State.refuseBad_res1 : (s.refuseBad).res1 = s.res1 := rfl
@[simp] theorem State.refuseBad_engine : (s.refuseBad).engine = s.engine := rfl
@[simp] theorem State.refuseBad_bufValid : (s.refuseBad).bufValid = s.bufValid := rfl
@[simp] theorem State.refuseBad_bufW : (s.refuseBad).bufW = s.bufW := rfl
@[simp] theorem State.refuseBad_bufH : (s.refuseBad).bufH = s.bufH := rfl
@[simp] theorem State.refuseBad_err : (s.refuseBad).err = s.err := rfl
@[simp] theorem State.refuseBad_cmdOvf : (s.refuseBad).cmdOvf = s.cmdOvf := rfl
@[simp] theorem State.refuseBad_busyAcc : (s.refuseBad).busyAcc = s.busyAcc := rfl
@[simp] theorem State.refuseBad_badAcc : (s.refuseBad).badAcc = true := rfl
@[simp] theorem State.refuseBad_init : (s.refuseBad).init = s.init := rfl
@[simp] theorem State.refuseBad_initPhase : (s.refuseBad).initPhase = s.initPhase := rfl
@[simp] theorem State.refuseBad_portrait : (s.refuseBad).portrait = s.portrait := rfl
@[simp] theorem State.refuseBad_panelW : (s.refuseBad).panelW = s.panelW := rfl
@[simp] theorem State.refuseBad_panelH : (s.refuseBad).panelH = s.panelH := rfl
@[simp] theorem State.refuseBad_bus16 : (s.refuseBad).bus16 = s.bus16 := rfl
@[simp] theorem State.refuseBad_asleep : (s.refuseBad).asleep = s.asleep := rfl
@[simp] theorem State.refuseBad_blEn : (s.refuseBad).blEn = s.blEn := rfl
@[simp] theorem State.refuseBad_blLevel : (s.refuseBad).blLevel = s.blLevel := rfl
@[simp] theorem State.refuseBad_sckDiv : (s.refuseBad).sckDiv = s.sckDiv := rfl
@[simp] theorem State.refuseBad_modeSwCnt : (s.refuseBad).modeSwCnt = s.modeSwCnt := rfl
@[simp] theorem State.refuseBad_pins : (s.refuseBad).pins = s.pins := rfl
@[simp] theorem State.refuseBad_wire : (s.refuseBad).wire = s.wire := rfl
@[simp] theorem State.refuseBad_mem : (s.refuseBad).mem = s.mem := rfl
@[simp] theorem State.refuseBad_pramDraw : (s.refuseBad).pramDraw = s.pramDraw := rfl
@[simp] theorem State.refuseBad_pbDraw : (s.refuseBad).pbDraw = s.pbDraw := rfl
@[simp] theorem State.refuseBad_wordDraw : (s.refuseBad).wordDraw = s.wordDraw := rfl
@[simp] theorem State.refuseBad_params : (s.refuseBad).params = s.params := rfl
@[simp] theorem State.refuseBad_font : (s.refuseBad).font = s.font := rfl
@[simp] theorem State.refuseBad_inputs : (s.refuseBad).inputs = s.inputs := rfl
@[simp] theorem State.refuseBad_bus : (s.refuseBad).bus = s.bus := rfl
@[simp] theorem State.refuseBad_readLog : (s.refuseBad).readLog = s.readLog := rfl

/-! ### `State.refuseBusy` -/

@[simp] theorem State.refuseBusy_args : (s.refuseBusy).args = s.args := rfl
@[simp] theorem State.refuseBusy_snap : (s.refuseBusy).snap = s.snap := rfl
@[simp] theorem State.refuseBusy_opaqueS : (s.refuseBusy).opaqueS = s.opaqueS := rfl
@[simp] theorem State.refuseBusy_glyphOpaque : (s.refuseBusy).glyphOpaque = s.glyphOpaque := rfl
@[simp] theorem State.refuseBusy_res0 : (s.refuseBusy).res0 = s.res0 := rfl
@[simp] theorem State.refuseBusy_res1 : (s.refuseBusy).res1 = s.res1 := rfl
@[simp] theorem State.refuseBusy_engine : (s.refuseBusy).engine = s.engine := rfl
@[simp] theorem State.refuseBusy_bufValid : (s.refuseBusy).bufValid = s.bufValid := rfl
@[simp] theorem State.refuseBusy_bufW : (s.refuseBusy).bufW = s.bufW := rfl
@[simp] theorem State.refuseBusy_bufH : (s.refuseBusy).bufH = s.bufH := rfl
@[simp] theorem State.refuseBusy_err : (s.refuseBusy).err = s.err := rfl
@[simp] theorem State.refuseBusy_cmdOvf : (s.refuseBusy).cmdOvf = s.cmdOvf := rfl
@[simp] theorem State.refuseBusy_busyAcc : (s.refuseBusy).busyAcc = true := rfl
@[simp] theorem State.refuseBusy_badAcc : (s.refuseBusy).badAcc = s.badAcc := rfl
@[simp] theorem State.refuseBusy_init : (s.refuseBusy).init = s.init := rfl
@[simp] theorem State.refuseBusy_initPhase : (s.refuseBusy).initPhase = s.initPhase := rfl
@[simp] theorem State.refuseBusy_portrait : (s.refuseBusy).portrait = s.portrait := rfl
@[simp] theorem State.refuseBusy_panelW : (s.refuseBusy).panelW = s.panelW := rfl
@[simp] theorem State.refuseBusy_panelH : (s.refuseBusy).panelH = s.panelH := rfl
@[simp] theorem State.refuseBusy_bus16 : (s.refuseBusy).bus16 = s.bus16 := rfl
@[simp] theorem State.refuseBusy_asleep : (s.refuseBusy).asleep = s.asleep := rfl
@[simp] theorem State.refuseBusy_blEn : (s.refuseBusy).blEn = s.blEn := rfl
@[simp] theorem State.refuseBusy_blLevel : (s.refuseBusy).blLevel = s.blLevel := rfl
@[simp] theorem State.refuseBusy_sckDiv : (s.refuseBusy).sckDiv = s.sckDiv := rfl
@[simp] theorem State.refuseBusy_modeSwCnt : (s.refuseBusy).modeSwCnt = s.modeSwCnt := rfl
@[simp] theorem State.refuseBusy_pins : (s.refuseBusy).pins = s.pins := rfl
@[simp] theorem State.refuseBusy_wire : (s.refuseBusy).wire = s.wire := rfl
@[simp] theorem State.refuseBusy_mem : (s.refuseBusy).mem = s.mem := rfl
@[simp] theorem State.refuseBusy_pramDraw : (s.refuseBusy).pramDraw = s.pramDraw := rfl
@[simp] theorem State.refuseBusy_pbDraw : (s.refuseBusy).pbDraw = s.pbDraw := rfl
@[simp] theorem State.refuseBusy_wordDraw : (s.refuseBusy).wordDraw = s.wordDraw := rfl
@[simp] theorem State.refuseBusy_params : (s.refuseBusy).params = s.params := rfl
@[simp] theorem State.refuseBusy_font : (s.refuseBusy).font = s.font := rfl
@[simp] theorem State.refuseBusy_inputs : (s.refuseBusy).inputs = s.inputs := rfl
@[simp] theorem State.refuseBusy_bus : (s.refuseBusy).bus = s.bus := rfl
@[simp] theorem State.refuseBusy_readLog : (s.refuseBusy).readLog = s.readLog := rfl

/-! ### `State.writeMem` -/

@[simp] theorem State.writeMem_args (w : Width) (off : Nat) (v : Word) : (s.writeMem w off v).args = s.args := rfl
@[simp] theorem State.writeMem_snap (w : Width) (off : Nat) (v : Word) : (s.writeMem w off v).snap = s.snap := rfl
@[simp] theorem State.writeMem_opaqueS (w : Width) (off : Nat) (v : Word) : (s.writeMem w off v).opaqueS = s.opaqueS := rfl
@[simp] theorem State.writeMem_glyphOpaque (w : Width) (off : Nat) (v : Word) : (s.writeMem w off v).glyphOpaque = s.glyphOpaque := rfl
@[simp] theorem State.writeMem_res0 (w : Width) (off : Nat) (v : Word) : (s.writeMem w off v).res0 = s.res0 := rfl
@[simp] theorem State.writeMem_res1 (w : Width) (off : Nat) (v : Word) : (s.writeMem w off v).res1 = s.res1 := rfl
@[simp] theorem State.writeMem_engine (w : Width) (off : Nat) (v : Word) : (s.writeMem w off v).engine = s.engine := rfl
@[simp] theorem State.writeMem_bufValid (w : Width) (off : Nat) (v : Word) : (s.writeMem w off v).bufValid = s.bufValid := rfl
@[simp] theorem State.writeMem_bufW (w : Width) (off : Nat) (v : Word) : (s.writeMem w off v).bufW = s.bufW := rfl
@[simp] theorem State.writeMem_bufH (w : Width) (off : Nat) (v : Word) : (s.writeMem w off v).bufH = s.bufH := rfl
@[simp] theorem State.writeMem_err (w : Width) (off : Nat) (v : Word) : (s.writeMem w off v).err = s.err := rfl
@[simp] theorem State.writeMem_cmdOvf (w : Width) (off : Nat) (v : Word) : (s.writeMem w off v).cmdOvf = s.cmdOvf := rfl
@[simp] theorem State.writeMem_busyAcc (w : Width) (off : Nat) (v : Word) : (s.writeMem w off v).busyAcc = s.busyAcc := rfl
@[simp] theorem State.writeMem_badAcc (w : Width) (off : Nat) (v : Word) : (s.writeMem w off v).badAcc = s.badAcc := rfl
@[simp] theorem State.writeMem_init (w : Width) (off : Nat) (v : Word) : (s.writeMem w off v).init = s.init := rfl
@[simp] theorem State.writeMem_initPhase (w : Width) (off : Nat) (v : Word) : (s.writeMem w off v).initPhase = s.initPhase := rfl
@[simp] theorem State.writeMem_portrait (w : Width) (off : Nat) (v : Word) : (s.writeMem w off v).portrait = s.portrait := rfl
@[simp] theorem State.writeMem_panelW (w : Width) (off : Nat) (v : Word) : (s.writeMem w off v).panelW = s.panelW := rfl
@[simp] theorem State.writeMem_panelH (w : Width) (off : Nat) (v : Word) : (s.writeMem w off v).panelH = s.panelH := rfl
@[simp] theorem State.writeMem_bus16 (w : Width) (off : Nat) (v : Word) : (s.writeMem w off v).bus16 = s.bus16 := rfl
@[simp] theorem State.writeMem_asleep (w : Width) (off : Nat) (v : Word) : (s.writeMem w off v).asleep = s.asleep := rfl
@[simp] theorem State.writeMem_blEn (w : Width) (off : Nat) (v : Word) : (s.writeMem w off v).blEn = s.blEn := rfl
@[simp] theorem State.writeMem_blLevel (w : Width) (off : Nat) (v : Word) : (s.writeMem w off v).blLevel = s.blLevel := rfl
@[simp] theorem State.writeMem_sckDiv (w : Width) (off : Nat) (v : Word) : (s.writeMem w off v).sckDiv = s.sckDiv := rfl
@[simp] theorem State.writeMem_modeSwCnt (w : Width) (off : Nat) (v : Word) : (s.writeMem w off v).modeSwCnt = s.modeSwCnt := rfl
@[simp] theorem State.writeMem_pins (w : Width) (off : Nat) (v : Word) : (s.writeMem w off v).pins = s.pins := rfl
@[simp] theorem State.writeMem_wire (w : Width) (off : Nat) (v : Word) : (s.writeMem w off v).wire = s.wire := rfl
@[simp] theorem State.writeMem_mem (w : Width) (off : Nat) (v : Word) : (s.writeMem w off v).mem = Mem.writeBytes s.mem off (valueBytes w v) := rfl
@[simp] theorem State.writeMem_pramDraw (w : Width) (off : Nat) (v : Word) : (s.writeMem w off v).pramDraw = s.pramDraw := rfl
@[simp] theorem State.writeMem_pbDraw (w : Width) (off : Nat) (v : Word) : (s.writeMem w off v).pbDraw = s.pbDraw := rfl
@[simp] theorem State.writeMem_wordDraw (w : Width) (off : Nat) (v : Word) : (s.writeMem w off v).wordDraw = s.wordDraw := rfl
@[simp] theorem State.writeMem_params (w : Width) (off : Nat) (v : Word) : (s.writeMem w off v).params = s.params := rfl
@[simp] theorem State.writeMem_font (w : Width) (off : Nat) (v : Word) : (s.writeMem w off v).font = s.font := rfl
@[simp] theorem State.writeMem_inputs (w : Width) (off : Nat) (v : Word) : (s.writeMem w off v).inputs = s.inputs := rfl
@[simp] theorem State.writeMem_bus (w : Width) (off : Nat) (v : Word) : (s.writeMem w off v).bus = s.bus := rfl
@[simp] theorem State.writeMem_readLog (w : Width) (off : Nat) (v : Word) : (s.writeMem w off v).readLog = s.readLog := rfl

end Sys2Proof.Machine
end

