-- ==== Sys2Proof/Laws/Memory.lean ====
section
/-! SUPPORT. The laws of the memory list: what a read gives after each operation, and that every operation keeps the
canonical form. Reads need no hypothesis on the list. -/

namespace Sys2Proof.Machine

/-! ### Reads after one write -/

@[simp] theorem Mem.read?_nil (a : Nat) : Mem.read? [] a = none := rfl

theorem Mem.read?_cons (b : Nat) (v : Byte) (m : Mem) (a : Nat) :
    Mem.read? ((b, v) :: m) a = if b = a then some v else Mem.read? m a := rfl

@[simp] theorem Mem.read?_write_same (m : Mem) (a : Nat) (v : Byte) :
    Mem.read? (Mem.write m a v) a = some v := by
  induction m with
  | nil => simp [Mem.write, Mem.read?]
  | cons e m ih =>
    obtain ⟨b, u⟩ := e
    simp only [Mem.write]
    split
    · simp [Mem.read?]
    · split
      · simp [Mem.read?]
      · next h => simp [Mem.read?, Ne.symm h, ih]

theorem Mem.read?_write_other (m : Mem) {a c : Nat} (v : Byte) (h : c ≠ a) :
    Mem.read? (Mem.write m a v) c = Mem.read? m c := by
  induction m with
  | nil => simp [Mem.write, Mem.read?, Ne.symm h]
  | cons e m ih =>
    obtain ⟨b, u⟩ := e
    simp only [Mem.write]
    split
    · simp [Mem.read?, Ne.symm h]
    · split
      · next h' => subst h'; simp [Mem.read?, Ne.symm h]
      · simp [Mem.read?, ih]

/-! ### Reads through `filter` and `++` -/

theorem Mem.read?_append (m n : Mem) (a : Nat) :
    Mem.read? (m ++ n) a = (Mem.read? m a).or (Mem.read? n a) := by
  induction m with
  | nil => simp
  | cons e m ih =>
    obtain ⟨b, v⟩ := e
    by_cases h : b = a <;> simp [Mem.read?, h, ih]

theorem Mem.read?_filter (p : Nat → Bool) (m : Mem) (a : Nat) :
    Mem.read? (m.filter (fun e => p e.1)) a = if p a then Mem.read? m a else none := by
  induction m with
  | nil => simp
  | cons e m ih =>
    obtain ⟨b, v⟩ := e
    by_cases hb : p b <;> by_cases h : b = a
    · subst h; simp [hb, Mem.read?]
    · simp [hb, Mem.read?, h, ih]
    · subst h; simp [hb, ih]
    · simp [hb, Mem.read?, h, ih]

/-! ### The canonical form -/

theorem Mem.wf_cons (b : Nat) (v : Byte) (m : Mem) :
    Mem.wf ((b, v) :: m) = true ↔ (∀ e ∈ m, b < e.1) ∧ Mem.wf m = true := by
  induction m generalizing b v with
  | nil => simp [Mem.wf]
  | cons e m ih =>
    obtain ⟨c, u⟩ := e
    simp only [Mem.wf, Bool.and_eq_true, decide_eq_true_eq, List.mem_cons, forall_eq_or_imp]
    constructor
    · rintro ⟨hbc, hm⟩
      refine ⟨⟨hbc, fun e he => ?_⟩, hm⟩
      exact lt_trans hbc (((ih c u).1 hm).1 e he)
    · rintro ⟨⟨hbc, _⟩, hm⟩
      exact ⟨hbc, hm⟩

theorem Mem.wf_iff_pairwise (m : Mem) : Mem.wf m = true ↔ m.Pairwise (fun d e => d.1 < e.1) := by
  induction m with
  | nil => simp [Mem.wf]
  | cons e m ih =>
    obtain ⟨b, v⟩ := e
    rw [Mem.wf_cons, List.pairwise_cons, ih]

/-- A write lists the offset written and those listed before. -/
theorem Mem.mem_write {m : Mem} {a : Nat} {v : Byte} {e : Host.Cell} (h : e ∈ Mem.write m a v) :
    e = (a, v) ∨ e ∈ m := by
  induction m with
  | nil => simpa [Mem.write] using h
  | cons d m ih =>
    obtain ⟨b, u⟩ := d
    simp only [Mem.write] at h
    split at h
    · simpa using h
    · split at h
      · simp only [List.mem_cons] at h ⊢; tauto
      · simp only [List.mem_cons] at h ⊢
        rcases h with h | h
        · exact .inr (.inl h)
        · rcases ih h with h | h <;> tauto

theorem Mem.wf_write (m : Mem) (a : Nat) (v : Byte) (h : Mem.wf m = true) :
    Mem.wf (Mem.write m a v) = true := by
  induction m with
  | nil => simp [Mem.write, Mem.wf]
  | cons e m ih =>
    obtain ⟨b, u⟩ := e
    have hc := (Mem.wf_cons b u m).1 h
    simp only [Mem.write]
    split
    · next hab => simp [Mem.wf, hab, h]
    · next hab =>
      split
      · next he => subst he; exact (Mem.wf_cons a v m).2 hc
      · next he =>
        refine (Mem.wf_cons b u _).2 ⟨fun e h' => ?_, ih hc.2⟩
        rcases Mem.mem_write h' with rfl | h'
        · simp only; omega
        · exact hc.1 e h'

theorem Mem.wf_filter (p : Host.Cell → Bool) (m : Mem) (h : Mem.wf m = true) :
    Mem.wf (m.filter p) = true := by
  rw [Mem.wf_iff_pairwise] at h ⊢
  exact h.filter p

theorem Mem.wf_append (m n : Mem) (hm : Mem.wf m = true) (hn : Mem.wf n = true)
    (h : ∀ d ∈ m, ∀ e ∈ n, d.1 < e.1) : Mem.wf (m ++ n) = true := by
  rw [Mem.wf_iff_pairwise] at *
  exact List.pairwise_append.2 ⟨hm, hn, h⟩

/-! ### Cells -/

/-- Reading a byte after `writeCell`: the cell's low byte, its high byte, or what stood there. -/
theorem Mem.read?_writeCell (m : Mem) (i : Nat) (c : Color) (a : Nat) :
    Mem.read? (Mem.writeCell m i c) a =
      if a = pbufBase + 2 * i then some (c.extractLsb' 0 8)
      else if a = pbufBase + 2 * i + 1 then some (c.extractLsb' 8 8)
      else Mem.read? m a := by
  unfold Mem.writeCell
  by_cases h1 : a = pbufBase + 2 * i + 1
  · subst h1; simp
  · rw [Mem.read?_write_other _ _ h1]
    by_cases h0 : a = pbufBase + 2 * i
    · subst h0; simp
    · rw [Mem.read?_write_other _ _ h0]; simp [h0, h1]

theorem Mem.wf_writeCell (m : Mem) (i : Nat) (c : Color) (h : Mem.wf m = true) :
    Mem.wf (Mem.writeCell m i c) = true :=
  Mem.wf_write _ _ _ (Mem.wf_write _ _ _ h)

theorem Mem.wf_putPixel (w h : Nat) (m : Mem) (p : Pixel) (hm : Mem.wf m = true) :
    Mem.wf (Mem.putPixel w h m p) = true := by
  unfold Mem.putPixel
  split
  · exact Mem.wf_writeCell _ _ _ hm
  · exact hm

theorem Mem.wf_foldl_putPixel (w h : Nat) (ps : List Pixel) (m : Mem) (hm : Mem.wf m = true) :
    Mem.wf (ps.foldl (Mem.putPixel w h) m) = true := by
  induction ps generalizing m with
  | nil => exact hm
  | cons p ps ih => exact ih _ (Mem.wf_putPixel w h m p hm)

theorem Mem.wf_writeBytes (bs : List Byte) (m : Mem) (off : Nat) (hm : Mem.wf m = true) :
    Mem.wf (Mem.writeBytes m off bs) = true := by
  induction bs generalizing m off with
  | nil => exact hm
  | cons b bs ih => exact ih _ _ (Mem.wf_write _ _ _ hm)

/-- Reading after a write of bytes: the byte of the list that lands there, or what stood there. -/
theorem Mem.read?_writeBytes (bs : List Byte) (m : Mem) (off a : Nat) :
    Mem.read? (Mem.writeBytes m off bs) a =
      if off ≤ a ∧ a < off + bs.length then bs[a - off]? else Mem.read? m a := by
  induction bs generalizing m off with
  | nil => simp [Mem.writeBytes]
  | cons b bs ih =>
    simp only [Mem.writeBytes, ih, List.length_cons]
    by_cases h : a = off
    · subst h
      rw [if_neg (by omega), if_pos (by omega)]
      simp
    · rw [Mem.read?_write_other _ _ h]
      by_cases h' : off + 1 ≤ a ∧ a < off + 1 + bs.length
      · rw [if_pos h', if_pos (by omega)]
        have : a - off = (a - (off + 1)) + 1 := by omega
        rw [this, List.getElem?_cons_succ]
      · rw [if_neg h', if_neg (by omega)]

/-! ### Filling -/

theorem fillEntries_mem {c : Color} {n i : Nat} {e : Host.Cell} (h : e ∈ fillEntries c n i) :
    pbufBase + 2 * i ≤ e.1 ∧ e.1 < pbufBase + 2 * (i + n) := by
  induction n generalizing i with
  | zero => simp [fillEntries] at h
  | succ n ih =>
    simp only [fillEntries, List.mem_cons] at h
    rcases h with rfl | rfl | h
    · simp
    · simp; omega
    · have := ih h; omega

theorem fillEntries_wf (c : Color) (n i : Nat) : Mem.wf (fillEntries c n i) = true := by
  induction n generalizing i with
  | zero => rfl
  | succ n ih =>
    simp only [fillEntries]
    rw [Mem.wf_cons, Mem.wf_cons]
    refine ⟨fun e he => ?_, fun e he => ?_, ih (i + 1)⟩
    · simp only [List.mem_cons] at he
      rcases he with rfl | he
      · simp
      · have := fillEntries_mem he; omega
    · have := fillEntries_mem he; omega

theorem pbufBase_even : pbufBase % 2 = 0 := rfl

/-- Reading a byte of a filled range. -/
theorem Mem.read?_fillEntries (c : Color) (n i a : Nat) :
    Mem.read? (fillEntries c n i) a =
      if pbufBase + 2 * i ≤ a ∧ a < pbufBase + 2 * (i + n) then
        some (if a % 2 = 0 then c.extractLsb' 0 8 else c.extractLsb' 8 8)
      else none := by
  induction n generalizing i with
  | zero => simp only [fillEntries, Mem.read?_nil]; rw [if_neg (by omega)]
  | succ n ih =>
    simp only [fillEntries, Mem.read?_cons, ih]
    by_cases h0 : pbufBase + 2 * i = a
    · rw [if_pos h0, if_pos (by omega), if_pos (by have := pbufBase_even; omega)]
    · rw [if_neg h0]
      by_cases h1 : pbufBase + 2 * i + 1 = a
      · rw [if_pos h1, if_pos (by omega), if_neg (by have := pbufBase_even; omega)]
      · rw [if_neg h1]
        have h : (pbufBase + 2 * (i + 1) ≤ a ∧ a < pbufBase + 2 * (i + 1 + n)) ↔
            (pbufBase + 2 * i ≤ a ∧ a < pbufBase + 2 * (i + (n + 1))) := by omega
        simp only [h]

theorem Mem.wf_fill (m : Mem) (n : Nat) (c : Color) (h : Mem.wf m = true) :
    Mem.wf (Mem.fill m n c) = true := by
  unfold Mem.fill
  refine Mem.wf_append _ _ (Mem.wf_append _ _ (Mem.wf_filter _ _ h) (fillEntries_wf c n 0) ?_)
    (Mem.wf_filter _ _ h) ?_
  · intro d hd e he
    have h1 := fillEntries_mem he
    simp only [List.mem_filter, decide_eq_true_eq] at hd
    omega
  · intro d hd e he
    simp only [List.mem_filter, decide_eq_true_eq, List.mem_append] at hd he
    rcases hd with hd | hd
    · omega
    · have := fillEntries_mem hd; omega

/-- Reading a byte after a fill: the colour's byte inside the filled cells, what stood there outside. -/
theorem Mem.read?_fill (m : Mem) (n : Nat) (c : Color) (a : Nat) :
    Mem.read? (Mem.fill m n c) a =
      if pbufBase ≤ a ∧ a < pbufBase + 2 * n then
        some (if a % 2 = 0 then c.extractLsb' 0 8 else c.extractLsb' 8 8)
      else Mem.read? m a := by
  unfold Mem.fill
  rw [Mem.read?_append, Mem.read?_append, Mem.read?_filter (fun b => decide (b < pbufBase)),
    Mem.read?_filter (fun b => decide (pbufBase + 2 * n ≤ b)), Mem.read?_fillEntries]
  simp only [decide_eq_true_eq, Nat.mul_zero, Nat.add_zero, Nat.zero_add]
  by_cases h1 : a < pbufBase
  · rw [if_pos h1, if_neg (by omega), if_neg (by omega), if_neg (by omega)]; simp
  · rw [if_neg h1]
    have h2 : (pbufBase ≤ a ∧ a < pbufBase + 2 * n) ↔ a < pbufBase + 2 * n := by omega
    have h3 : pbufBase + 2 * n ≤ a ↔ ¬ a < pbufBase + 2 * n := by omega
    simp only [h2, h3]
    by_cases h4 : a < pbufBase + 2 * n
    · simp only [h4, if_true]; rfl
    · simp only [h4, if_false, not_false_eq_true, if_true]; rfl

end Sys2Proof.Machine
end

