-- ==== Sys2Proof/Laws/Ops.lean ====
section
/-! SUPPORT. One lemma for each shared operation that says what it can do. -/

namespace Sys2Proof.Machine

/-! ### Reads of a byte depend on three fields -/

theorem State.byteAt_congr {s t : State} (hm : t.mem = s.mem) (hp : t.pramDraw = s.pramDraw)
    (hb : t.pbDraw = s.pbDraw) (off : Nat) : t.byteAt off = s.byteAt off := by
  simp [State.byteAt, State.unlisted, hm, hp, hb]

theorem State.cellAt_congr {s t : State} {i : Nat}
    (h0 : t.byteAt (pbufBase + 2 * i) = s.byteAt (pbufBase + 2 * i))
    (h1 : t.byteAt (pbufBase + 2 * i + 1) = s.byteAt (pbufBase + 2 * i + 1)) : t.cellAt i = s.cellAt i := by
  simp [State.cellAt, h0, h1]

/-- A colour is its high byte and its low byte. -/
theorem color_bytes (c : Color) : c.extractLsb' 8 8 ++ c.extractLsb' 0 8 = c := by
  ext i hi
  simp only [BitVec.getElem_append, BitVec.getElem_extractLsb']
  split
  · simp [BitVec.getLsbD_eq_getElem hi]
  · have h : 8 + (i - 8) = i := by omega
    simp [h, BitVec.getLsbD_eq_getElem hi]

/-! ### Drawing -/

theorem Mem.putPixel_eq (w h : Nat) (m : Mem) (p : Pixel) :
    Mem.putPixel w h m p =
      if 0 ≤ p.x ∧ p.x < w ∧ 0 ≤ p.y ∧ p.y < h then Mem.writeCell m (p.y.toNat * w + p.x.toNat) p.c else m := rfl

/-- A pixel inside the buffer lands on one of its cells. -/
theorem cell_lt {w h : Nat} {p : Pixel} (hp : 0 ≤ p.x ∧ p.x < w ∧ 0 ≤ p.y ∧ p.y < h) :
    p.y.toNat * w + p.x.toNat < w * h := by
  obtain ⟨h1, h2, h3, h4⟩ := hp
  have hx : p.x.toNat < w := by omega
  have hy : p.y.toNat + 1 ≤ h := by omega
  calc p.y.toNat * w + p.x.toNat < p.y.toNat * w + w := by omega
    _ = (p.y.toNat + 1) * w := by ring
    _ ≤ h * w := Nat.mul_le_mul_right w hy
    _ = w * h := Nat.mul_comm h w

/-- Drawing changes no byte outside the live buffer's cells (R76). -/
theorem Mem.read?_foldl_putPixel_outside (w h : Nat) (ps : List Pixel) (m : Mem) {a : Nat}
    (ha : a < pbufBase ∨ pbufBase + 2 * (w * h) ≤ a) :
    Mem.read? (ps.foldl (Mem.putPixel w h) m) a = Mem.read? m a := by
  induction ps generalizing m with
  | nil => rfl
  | cons p ps ih =>
    rw [List.foldl_cons, ih]
    unfold Mem.putPixel
    split
    · next hp =>
      have := cell_lt hp
      rw [Mem.read?_writeCell, if_neg (by omega), if_neg (by omega)]
    · rfl

/-- The two bytes of a cell after drawing: the last colour that landed on it, or what stood there. -/
theorem Mem.read?_foldl_putPixel (w h : Nat) (ps : List Pixel) (m : Mem) (i : Nat) :
    Mem.read? (ps.foldl (Mem.putPixel w h) m) (pbufBase + 2 * i)
        = ((lastColor w h ps i).map (fun c => c.extractLsb' 0 8)).or (Mem.read? m (pbufBase + 2 * i))
      ∧ Mem.read? (ps.foldl (Mem.putPixel w h) m) (pbufBase + 2 * i + 1)
        = ((lastColor w h ps i).map (fun c => c.extractLsb' 8 8)).or (Mem.read? m (pbufBase + 2 * i + 1)) := by
  induction ps generalizing m with
  | nil => simp [lastColor]
  | cons p ps ih =>
    rw [List.foldl_cons, (ih _).1, (ih _).2]
    by_cases hp : 0 ≤ p.x ∧ p.x < w ∧ 0 ≤ p.y ∧ p.y < h
    · have hl : landsOn w h p i = decide (p.y.toNat * w + p.x.toNat = i) := by simp [landsOn, hp]
      rw [Mem.putPixel_eq, if_pos hp, Mem.read?_writeCell, Mem.read?_writeCell]
      by_cases hi : p.y.toNat * w + p.x.toNat = i
      · cases hc : lastColor w h ps i <;> simp [lastColor, hl, hi, hc]
      · rw [if_neg (by omega), if_neg (by omega), if_neg (by omega), if_neg (by omega)]
        simp [lastColor, hl, hi]
    · have hl : landsOn w h p i = false := by
        simp only [landsOn, Bool.and_eq_false_iff, decide_eq_false_iff_not]
        tauto
      rw [Mem.putPixel_eq, if_neg hp]
      simp [lastColor, hl]

/-- What drawing leaves in a cell (R82). -/
theorem State.cellAt_plot (s : State) (ps : List Pixel) (i : Nat) :
    (s.plot ps).cellAt i = (lastColor s.bufW.toNat s.bufH.toNat ps i).getD (s.cellAt i) := by
  have h := Mem.read?_foldl_putPixel s.bufW.toNat s.bufH.toNat ps s.mem i
  simp only [State.cellAt, State.byteAt, State.plot_mem, h.1, h.2, State.unlisted, State.plot_pramDraw,
    State.plot_pbDraw]
  cases hc : lastColor s.bufW.toNat s.bufH.toNat ps i with
  | none => simp
  | some c => simp [color_bytes]

/-- Drawing leaves every byte outside the live buffer's cells alone (R76). -/
theorem State.byteAt_plot (s : State) (ps : List Pixel) {off : Nat}
    (h : off < pbufBase ∨ pbufBase + 2 * (s.bufW.toNat * s.bufH.toNat) ≤ off) :
    (s.plot ps).byteAt off = s.byteAt off := by
  simp [State.byteAt, State.unlisted, Mem.read?_foldl_putPixel_outside _ _ ps s.mem h]

theorem State.draw_live {s : State} (h : s.bufValid = true) (ps : List Pixel) :
    s.draw ps = .next ((s.plot ps).complete .ok) := by simp [State.draw, h]

theorem State.draw_noBuf {s : State} (h : s.bufValid = false) (ps : List Pixel) :
    s.draw ps = .next (s.complete .noBuf) := by simp [State.draw, h]

/-- A colour that every pixel of the list has is what any landing leaves. -/
theorem lastColor_mono (w h : Nat) (ps : List Pixel) (c : Color) (i : Nat) (hc : ∀ p ∈ ps, p.c = c) :
    lastColor w h ps i = if ps.any (fun p => landsOn w h p i) then some c else none := by
  induction ps with
  | nil => simp [lastColor]
  | cons p ps ih =>
    have h1 := hc p (by simp)
    have h2 := ih (fun q hq => hc q (by simp [hq]))
    by_cases ha : ps.any (fun p => landsOn w h p i) = true
    · simp [lastColor, h2, ha]
    · by_cases hl : landsOn w h p i = true <;> simp [lastColor, h2, ha, hl, h1]

/-! ### A filled buffer -/

theorem State.byteAt_fill (s : State) (n : Nat) (c : Color) (off : Nat) :
    State.byteAt { s with mem := Mem.fill s.mem n c } off =
      if pbufBase ≤ off ∧ off < pbufBase + 2 * n then
        (if off % 2 = 0 then c.extractLsb' 0 8 else c.extractLsb' 8 8)
      else s.byteAt off := by
  simp only [State.byteAt, State.unlisted, Mem.read?_fill]
  split <;> simp

/-! ### Creation of a buffer -/

/-- A creation fails because a buffer is live, fails because the product is too large, or succeeds (R77). -/
theorem State.createBuffer_cases (s : State) (w h : Nat) :
    (s.bufValid = true ∧ s.createBuffer w h = s.complete .bufExists)
      ∨ (s.bufValid = false ∧ s.params.maxCells < w * h ∧ s.createBuffer w h = s.complete .alloc)
      ∨ (s.bufValid = false ∧ w * h ≤ s.params.maxCells ∧
          s.createBuffer w h =
            { s with
              mem := s.mem.filter (fun e => e.1 < pbufBase), pbDraw := s.pbDraw + 1,
              bufW := BitVec.ofNat 16 w, bufH := BitVec.ofNat 16 h, bufValid := true,
              err := .ok, engine := .idle }) := by
  unfold State.createBuffer
  by_cases h1 : s.bufValid = true
  · simp [h1]
  · by_cases h2 : s.params.maxCells < w * h
    · simp [h1, h2]
    · refine .inr (.inr ⟨by simpa using h1, by omega, ?_⟩)
      simp only [h1, gt_iff_lt, h2, if_false]
      rfl

/-! ### The panel bus -/

/-- A word is appended, fails, or stalls, as the environment says (R130). -/
theorem State.shiftWord_cases (s : State) (e : WireEvent) :
    (s.nextOutcome = .ok ∧ s.shiftWord e = .done (State.emit { s with bus := s.bus.tail } e))
      ∨ (s.nextOutcome = .fail ∧ s.shiftWord e = .failed { s with bus := s.bus.tail })
      ∨ (s.nextOutcome = .stall ∧ s.shiftWord e = .stalled { s with bus := s.bus.tail }) := by
  unfold State.shiftWord
  cases h : s.nextOutcome <;> simp

/-- The state in the answer of an action, whichever it is. -/
def ActResult.state : ActResult → State
  | .done t => t
  | .failed t => t
  | .stalled t => t

/-- Everything a transport command leaves alone: all but the panel's state, the wire, the pins and the engine. -/
structure OutsideTransport (s t : State) : Prop where
  args : t.args = s.args
  snap : t.snap = s.snap
  opaqueS : t.opaqueS = s.opaqueS
  glyphOpaque : t.glyphOpaque = s.glyphOpaque
  res0 : t.res0 = s.res0
  res1 : t.res1 = s.res1
  bufValid : t.bufValid = s.bufValid
  bufW : t.bufW = s.bufW
  bufH : t.bufH = s.bufH
  cmdOvf : t.cmdOvf = s.cmdOvf
  busyAcc : t.busyAcc = s.busyAcc
  badAcc : t.badAcc = s.badAcc
  mem : t.mem = s.mem
  pramDraw : t.pramDraw = s.pramDraw
  pbDraw : t.pbDraw = s.pbDraw
  params : t.params = s.params
  font : t.font = s.font
  inputs : t.inputs = s.inputs
  readLog : t.readLog = s.readLog

theorem OutsideTransport.refl (s : State) : OutsideTransport s s := by constructor <;> rfl

theorem OutsideTransport.trans {s t u : State} (h : OutsideTransport s t) (k : OutsideTransport t u) :
    OutsideTransport s u := by
  constructor
  all_goals first
    | exact k.args.trans h.args | exact k.snap.trans h.snap | exact k.opaqueS.trans h.opaqueS
    | exact k.glyphOpaque.trans h.glyphOpaque | exact k.res0.trans h.res0 | exact k.res1.trans h.res1
    | exact k.bufValid.trans h.bufValid | exact k.bufW.trans h.bufW | exact k.bufH.trans h.bufH
    | exact k.cmdOvf.trans h.cmdOvf | exact k.busyAcc.trans h.busyAcc | exact k.badAcc.trans h.badAcc
    | exact k.mem.trans h.mem | exact k.pramDraw.trans h.pramDraw | exact k.pbDraw.trans h.pbDraw
    | exact k.params.trans h.params | exact k.font.trans h.font | exact k.inputs.trans h.inputs | exact k.readLog.trans h.readLog

theorem State.shiftWord_outside (s : State) (e : WireEvent) : OutsideTransport s (s.shiftWord e).state := by
  rcases s.shiftWord_cases e with ⟨_, h⟩ | ⟨_, h⟩ | ⟨_, h⟩ <;> rw [h] <;> constructor <;> rfl

/-- An action leaves everything outside the transport alone. -/
theorem Act.run_outside (s : State) (a : Act) : OutsideTransport s (Act.run s a).state := by
  cases a
  case word8 b => exact s.shiftWord_outside _
  case word16 h => exact s.shiftWord_outside _
  case ensure8 => simp only [Act.run, ActResult.state]; split <;> constructor <;> rfl
  case ensure16 => simp only [Act.run, ActResult.state]; split <;> constructor <;> rfl
  all_goals constructor <;> rfl

/-- A sequence of actions leaves everything outside the transport alone, however it ends. -/
theorem runActs_outside (isInit : Bool) (acts : List Act) (s : State) :
    OutsideTransport s (runActs isInit acts s) := by
  induction acts generalizing s with
  | nil => constructor <;> rfl
  | cons a rest ih =>
    have ha := Act.run_outside s a
    simp only [runActs]
    cases h : Act.run s a with
    | done t => rw [h] at ha; exact ha.trans (ih t)
    | failed t => rw [h] at ha; exact ha.trans (by constructor <;> rfl)
    | stalled t => rw [h] at ha; exact ha.trans (by constructor <;> rfl)

/-- An action does not look at the engine, and leaves it as it is. -/
theorem Act.run_engine (s : State) (a : Act) (e : Engine) :
    Act.run { s with engine := e } a =
      match Act.run s a with
      | .done t => .done { t with engine := e }
      | .failed t => .failed { t with engine := e }
      | .stalled t => .stalled { t with engine := e } := by
  cases a
  case ensure8 => simp only [Act.run]; split <;> rfl
  case ensure16 => simp only [Act.run]; split <;> rfl
  case word8 b => simp only [Act.run, State.shiftWord, State.nextOutcome]; cases s.bus.headD .ok <;> rfl
  case word16 h => simp only [Act.run, State.shiftWord, State.nextOutcome]; cases s.bus.headD .ok <;> rfl
  all_goals rfl

/-- A sequence of actions does not look at the engine. -/
theorem runActs_engine (isInit : Bool) (acts : List Act) (s : State) (e : Engine) :
    runActs isInit acts { s with engine := e } = runActs isInit acts s := by
  induction acts generalizing s with
  | nil => rfl
  | cons a rest ih =>
    simp only [runActs, Act.run_engine]
    cases Act.run s a with
    | done t => exact ih t
    | failed t => rfl
    | stalled t => rfl

/-- Running two sequences one after the other, when no word of the first fails or stalls, is running both. -/
theorem runActs_append (isInit : Bool) (xs ys : List Act) (s t : State)
    (h : xs.foldlM (fun u a => match Act.run u a with | .done v => some v | _ => none) s = some t) :
    runActs isInit (xs ++ ys) s = runActs isInit ys t := by
  induction xs generalizing s with
  | nil => simp at h; simp [h]
  | cons a rest ih =>
    simp only [List.foldlM_cons] at h
    simp only [List.cons_append, runActs]
    cases hr : Act.run s a with
    | done v => rw [hr] at h; exact ih v h
    | failed v => rw [hr] at h; simp at h
    | stalled v => rw [hr] at h; simp at h

/-! ### The host port -/

/-- A read changes no more than the two refusal flags. -/
theorem State.hostRead_cases (s : State) (w : Width) (off : Nat) :
    (s.hostRead w off).2 = s ∨ s.hostRead w off = (0, s.refuseBad) ∨ s.hostRead w off = (0, s.refuseBusy) := by
  unfold State.hostRead
  cases region s.params off <;> simp only
  · split
    · cases s.readReg off <;> simp
    · simp
  · split
    · simp
    · split <;> simp
  · split
    · simp
    · split <;> simp
  · simp

/-- What a write of the host port can do. -/
theorem State.hostWrite_cases (s : State) (w : Width) (off : Nat) (v : Word) :
    (region s.params off = .regs ∧ s.writeReg off v = some (s.hostWrite w off v))
      ∨ (s.busy = false ∧ aligned w off = true ∧ s.hostWrite w off v = s.writeMem w off v
          ∧ (region s.params off = .pram ∧ s.inPramWindow w off = true ∨ region s.params off = .pbuf ∧ s.inLive w off = true))
      ∨ s.hostWrite w off v = s.refuseBad
      ∨ s.hostWrite w off v = s.refuseBusy := by
  unfold State.hostWrite
  cases region s.params off <;> simp only
  · split
    · cases hw : s.writeReg off v with
      | none => exact .inr (.inr (.inl rfl))
      | some t => exact .inl ⟨trivial, by simp⟩
    · exact .inr (.inr (.inl rfl))
  · split
    · exact .inr (.inr (.inr rfl))
    · next hb =>
      split
      · next ha =>
        simp only [Bool.and_eq_true] at ha
        exact .inr (.inl ⟨by simpa using hb, ha.1, rfl, .inl ⟨trivial, ha.2⟩⟩)
      · exact .inr (.inr (.inl rfl))
  · split
    · exact .inr (.inr (.inr rfl))
    · next hb =>
      split
      · next ha =>
        simp only [Bool.and_eq_true] at ha
        exact .inr (.inl ⟨by simpa using hb, ha.1, rfl, .inr ⟨trivial, ha.2⟩⟩)
      · exact .inr (.inr (.inl rfl))
  · exact .inr (.inr (.inl trivial))

/-- An offset of the window is where its host address, `BASE` and the offset, leads (R42). -/
theorem State.offset?_base (s : State) {off : Nat} (h : off < 0x80000) :
    s.offset? (s.params.base + off) = some off := by
  have hd : (s.params.base + off) / 0x80000 = s.params.window := by
    simp only [Params.base]; omega
  have hm : (s.params.base + off) % 0x80000 = off := by
    simp only [Params.base]; omega
  simp [State.offset?, hd, hm]

/-- A read leaves PPRT alone outside the window; inside it is a host read whose value goes to the log. -/
theorem State.access_read_cases (s : State) (w : Width) (addr : Nat) :
    (s.offset? addr = none ∧ s.access (.read w addr) = s)
      ∨ (∃ off, s.offset? addr = some off ∧ s.access (.read w addr) =
          { (s.hostRead w off).2 with readLog := (s.hostRead w off).1 :: (s.hostRead w off).2.readLog }) := by
  cases h : s.offset? addr with
  | none => exact .inl ⟨rfl, by simp only [State.access, h]⟩
  | some off => exact .inr ⟨off, rfl, by simp only [State.access, h]⟩

/-- A write leaves PPRT alone outside the window; inside it is a host write. -/
theorem State.access_write_cases (s : State) (w : Width) (addr : Nat) (v : Word) :
    (s.offset? addr = none ∧ s.access (.write w addr v) = s)
      ∨ (∃ off, s.offset? addr = some off ∧ s.access (.write w addr v) = s.hostWrite w off v) := by
  cases h : s.offset? addr with
  | none => exact .inl ⟨rfl, by simp only [State.access, h]⟩
  | some off => exact .inr ⟨off, rfl, by simp only [State.access, h]⟩

/-! ### The host's poll -/

/-- One round of a poll ends it when BUSY is 0, and otherwise lets the engine go on by one action (R68). -/
theorem pollRound_cases (s : State) (rest : List Input) :
    (s.busy = false ∧ pollRound s rest = .next { s with inputs := rest, readLog := s.statusWord :: s.readLog })
      ∨ (s.busy = true ∧ pollRound s rest = engineTick { s with readLog := s.statusWord :: s.readLog }) := by
  unfold pollRound
  cases s.busy <;> simp

/-! ### Reset -/

/-- The memory at reset has the canonical form. -/
theorem reset_mem_wf : Mem.wf State.reset.mem = true := rfl

end Sys2Proof.Machine
end

