-- ==== Sys2Proof/Laws/PerInstr.lean ====
section
/-! SUPPORT. Facts about each command as syntax, one lemma per constructor. The family `Selects`: the opcode alone
selects the command, whatever stands in the upper bits of `CMD` and in the arguments (R59, R60, R64, R67). -/

namespace Sys2Proof.Laws

/-- The opcode field of a `CMD` word is its low byte. -/
theorem opField_append (hi : BitVec 24) (op : Byte) : opField (hi ++ op : BitVec (24 + 8)) = op := by
  ext i h
  have e := BitVec.getLsbD_append (x := hi) (y := op) (i := i)
  simp only [opField, BitVec.getElem_extractLsb', Nat.zero_add]
  rw [e, if_pos h, BitVec.getLsbD_eq_getElem h]

namespace Selects

/-- Any words with the command's opcode decode to a command of that opcode. -/
def Statement (i : Instr) : Prop :=
  ∀ (hi : BitVec 24) (a : Args), ∃ j, decode ⟨hi ++ opcode i, a⟩ = .ok j ∧ opcode j = opcode i

theorem nop : Statement (.nop) := fun hi a => by
  simp [decode, opcode, opField_append]

theorem pack (r g b a : Nat) : Statement (.pack r g b a) := fun hi a => by
  simp [decode, opcode, opField_append]

theorem packA (r g b a : Nat) : Statement (.packA r g b a) := fun hi a => by
  simp [decode, opcode, opField_append]

theorem unpack (c : Color) : Statement (.unpack c) := fun hi a => by
  simp [decode, opcode, opField_append]

theorem bufCreate (w h : Nat) : Statement (.bufCreate w h) := fun hi a => by
  simp [decode, opcode, opField_append]

theorem bufCreatePanel : Statement (.bufCreatePanel) := fun hi a => by
  simp [decode, opcode, opField_append]

theorem bufDestroy : Statement (.bufDestroy) := fun hi a => by
  simp [decode, opcode, opField_append]

theorem bufFill (c : Color) : Statement (.bufFill c) := fun hi a => by
  simp [decode, opcode, opField_append]

theorem pixel (x y : Int) (c : Color) : Statement (.pixel x y c) := fun hi a => by
  simp [decode, opcode, opField_append]

theorem hline (x y w : Int) (c : Color) : Statement (.hline x y w c) := fun hi a => by
  simp [decode, opcode, opField_append]

theorem hlineGrad (x y w : Int) (c0 c1 : Color) : Statement (.hlineGrad x y w c0 c1) := fun hi a => by
  simp [decode, opcode, opField_append]

theorem line (x0 y0 x1 y1 : Int) (c : Color) : Statement (.line x0 y0 x1 y1 c) := fun hi a => by
  simp [decode, opcode, opField_append]

theorem rect (x y w h : Int) (c : Color) : Statement (.rect x y w h c) := fun hi a => by
  simp [decode, opcode, opField_append]

theorem rectFill (x y w h : Int) (c : Color) : Statement (.rectFill x y w h c) := fun hi a => by
  simp [decode, opcode, opField_append]

theorem tri (x0 y0 x1 y1 x2 y2 : Int) (c : Color) : Statement (.tri x0 y0 x1 y1 x2 y2 c) := fun hi a => by
  simp [decode, opcode, opField_append]

theorem triFill (x0 y0 x1 y1 x2 y2 : Int) (c : Color) : Statement (.triFill x0 y0 x1 y1 x2 y2 c) := fun hi a => by
  simp [decode, opcode, opField_append]

theorem triGrad (x0 y0 x1 y1 x2 y2 : Int) (c0 c1 c2 : Color) : Statement (.triGrad x0 y0 x1 y1 x2 y2 c0 c1 c2) := fun hi a => by
  simp [decode, opcode, opField_append]

theorem circle (cx cy r : Int) (c : Color) : Statement (.circle cx cy r c) := fun hi a => by
  simp [decode, opcode, opField_append]

theorem circleFill (cx cy r : Int) (c : Color) : Statement (.circleFill cx cy r c) := fun hi a => by
  simp [decode, opcode, opField_append]

theorem poly (xs ys n : Nat) (c : Color) : Statement (.poly xs ys n c) := fun hi a => by
  simp [decode, opcode, opField_append]

theorem polyFill : Statement (.polyFill) := fun hi a => by
  simp [decode, opcode, opField_append]

theorem char (x y : Int) (code : Nat) (fg bg : Color) : Statement (.char x y code fg bg) := fun hi a => by
  simp [decode, opcode, opField_append]

theorem text (x y : Int) (off len : Nat) (fg bg : Color) : Statement (.text x y off len fg bg) := fun hi a => by
  simp [decode, opcode, opField_append]

theorem textWidth (off len : Nat) : Statement (.textWidth off len) := fun hi a => by
  simp [decode, opcode, opField_append]

theorem pInit (portrait : Bool) (sckdiv : Nat) : Statement (.pInit portrait sckdiv) := fun hi a => by
  simp [decode, opcode, opField_append]

theorem pDeinit : Statement (.pDeinit) := fun hi a => by
  simp [decode, opcode, opField_append]

theorem pOrient (portrait : Bool) : Statement (.pOrient portrait) := fun hi a => by
  simp [decode, opcode, opField_append]

theorem pSleep : Statement (.pSleep) := fun hi a => by
  simp [decode, opcode, opField_append]

theorem pWake : Statement (.pWake) := fun hi a => by
  simp [decode, opcode, opField_append]

theorem pBright (level : Nat) : Statement (.pBright level) := fun hi a => by
  simp [decode, opcode, opField_append]

theorem pBrightPct (pct : Nat) : Statement (.pBrightPct pct) := fun hi a => by
  simp [decode, opcode, opField_append]

theorem pDraw (x y : Nat) : Statement (.pDraw x y) := fun hi a => by
  simp [decode, opcode, opField_append]

end Selects

end Sys2Proof.Laws
end

