-- ==== Sys2Proof/Tests/Slice0.lean ====
section
/-! SUPPORT. Tests. Expected results come from the spec: the encodings of 30_encoding.md, the vectors of
95_test_vectors.md (each named), or a hand calculation from the cited rule. At the end stands one witness for each
statement that has hypotheses. -/

open Sys2Proof Sys2Proof.Machine

namespace Sys2Proof.Tests

set_option Elab.async false

/-! ### WellFormed refuses every operand out of its range (R61, R68) -/

theorem test_wf_pack : [Instr.pack 256 0 0 0, .pack 0 256 0 0, .pack 0 0 256 0, .pack 0 0 0 256].any Instr.wf = false := by
  decide
theorem test_wf_packA :
    [Instr.packA 256 0 0 0, .packA 0 256 0 0, .packA 0 0 256 0, .packA 0 0 0 256].any Instr.wf = false := by decide
theorem test_wf_bufCreate : [Instr.bufCreate 65536 0, .bufCreate 0 65536].any Instr.wf = false := by decide
theorem test_wf_pixel : [Instr.pixel 32768 0 0, .pixel 0 (-32769) 0].any Instr.wf = false := by decide
theorem test_wf_hline : [Instr.hline 32768 0 0 0, .hline 0 32768 0 0, .hline 0 0 (-32769) 0].any Instr.wf = false := by
  decide
theorem test_wf_hlineGrad :
    [Instr.hlineGrad 32768 0 0 0 0, .hlineGrad 0 32768 0 0 0, .hlineGrad 0 0 32768 0 0].any Instr.wf = false := by decide
theorem test_wf_line :
    [Instr.line 32768 0 0 0 0, .line 0 32768 0 0 0, .line 0 0 32768 0 0, .line 0 0 0 32768 0].any Instr.wf = false := by
  decide
theorem test_wf_rect :
    [Instr.rect 32768 0 0 0 0, .rect 0 32768 0 0 0, .rect 0 0 32768 0 0, .rect 0 0 0 32768 0].any Instr.wf = false := by
  decide
theorem test_wf_rectFill :
    [Instr.rectFill 32768 0 0 0 0, .rectFill 0 32768 0 0 0, .rectFill 0 0 32768 0 0,
      .rectFill 0 0 0 32768 0].any Instr.wf = false := by decide
theorem test_wf_tri :
    [Instr.tri 32768 0 0 0 0 0 0, .tri 0 32768 0 0 0 0 0, .tri 0 0 32768 0 0 0 0, .tri 0 0 0 32768 0 0 0,
      .tri 0 0 0 0 32768 0 0, .tri 0 0 0 0 0 32768 0].any Instr.wf = false := by decide
theorem test_wf_triFill :
    [Instr.triFill 32768 0 0 0 0 0 0, .triFill 0 32768 0 0 0 0 0, .triFill 0 0 32768 0 0 0 0,
      .triFill 0 0 0 32768 0 0 0, .triFill 0 0 0 0 32768 0 0, .triFill 0 0 0 0 0 32768 0].any Instr.wf = false := by
  decide
theorem test_wf_triGrad :
    [Instr.triGrad 32768 0 0 0 0 0 0 0 0, .triGrad 0 32768 0 0 0 0 0 0 0, .triGrad 0 0 32768 0 0 0 0 0 0,
      .triGrad 0 0 0 32768 0 0 0 0 0, .triGrad 0 0 0 0 32768 0 0 0 0,
      .triGrad 0 0 0 0 0 32768 0 0 0].any Instr.wf = false := by decide
theorem test_wf_circle : [Instr.circle 32768 0 0 0, .circle 0 32768 0 0, .circle 0 0 32768 0].any Instr.wf = false := by
  decide
theorem test_wf_circleFill :
    [Instr.circleFill 32768 0 0 0, .circleFill 0 32768 0 0, .circleFill 0 0 32768 0].any Instr.wf = false := by decide
theorem test_wf_poly : [Instr.poly 65536 0 0 0, .poly 0 65536 0 0, .poly 0 0 65536 0].any Instr.wf = false := by decide
theorem test_wf_char : [Instr.char 32768 0 0 0 0, .char 0 32768 0 0 0, .char 0 0 256 0 0].any Instr.wf = false := by decide
theorem test_wf_text :
    [Instr.text 32768 0 0 0 0 0, .text 0 32768 0 0 0 0, .text 0 0 65536 0 0 0,
      .text 0 0 0 65536 0 0].any Instr.wf = false := by decide
theorem test_wf_textWidth : [Instr.textWidth 65536 0, .textWidth 0 65536].any Instr.wf = false := by decide
theorem test_wf_pInit : (Instr.pInit true 65536).wf = false := by decide
theorem test_wf_pBright : (Instr.pBright 65536).wf = false := by decide
theorem test_wf_pBrightPct : (Instr.pBrightPct 256).wf = false := by decide
theorem test_wf_pDraw : [Instr.pDraw 65536 0, .pDraw 0 65536].any Instr.wf = false := by decide
/-- The ends of each range are accepted. -/
theorem test_wf_ends :
    [Instr.pack 255 0 0 255, .pixel (-32768) 32767 0, .bufCreate 65535 65535, .char 0 0 255 0 0].all Instr.wf = true := by
  decide

/-! ### Each command decodes from words written out from R62 and R64 -/

/-- The words of a command: `CMD`, then `ARG0` .. `ARG4`; `ARG5` .. `ARG7` are no operands. -/
def words (cmd a0 a1 a2 a3 a4 : Word) : Code := ⟨cmd, ⟨a0, a1, a2, a3, a4, 0, 0, 0⟩⟩

theorem test_decode_nop : decode (words 0x00 0 0 0 0 0) = .ok .nop := by decide
theorem test_decode_pack : decode (words 0x01 0xFF123456 0 0 0 0) = .ok (.pack 0x56 0x34 0x12 0xFF) := by decide
theorem test_decode_packA : decode (words 0x02 0x80010203 0 0 0 0) = .ok (.packA 3 2 1 0x80) := by decide
theorem test_decode_unpack : decode (words 0x03 0xABCD11AA 0 0 0 0) = .ok (.unpack 0x11AA) := by decide
theorem test_decode_bufCreate : decode (words 0x10 0x014000F0 0 0 0 0) = .ok (.bufCreate 240 320) := by decide
theorem test_decode_bufCreatePanel : decode (words 0x11 5 6 7 8 9) = .ok .bufCreatePanel := by decide
theorem test_decode_bufDestroy : decode (words 0x12 5 0 0 0 0) = .ok .bufDestroy := by decide
theorem test_decode_bufFill : decode (words 0x13 0x99997BEF 0 0 0 0) = .ok (.bufFill 0x7BEF) := by decide
theorem test_decode_pixel : decode (words 0x20 0x0004FFFF 0x000007E0 0 0 0) = .ok (.pixel (-1) 4 0x07E0) := by decide
theorem test_decode_hline : decode (words 0x21 0x00010002 0x0000FFFD 0x0000F800 0 0) = .ok (.hline 2 1 (-3) 0xF800) := by
  decide
theorem test_decode_hlineGrad :
    decode (words 0x22 0x00010002 0x00000005 0xF8001234 0 0) = .ok (.hlineGrad 2 1 5 0x1234 0xF800) := by decide
theorem test_decode_line : decode (words 0x23 0xFFFFFFFE 0x00020005 0x0000F800 0 0) = .ok (.line (-2) (-1) 5 2 0xF800) := by
  decide
theorem test_decode_rect : decode (words 0x24 0x00020001 0xFFFF0003 0x00000001 0 0) = .ok (.rect 1 2 3 (-1) 1) := by decide
theorem test_decode_rectFill : decode (words 0x25 0x00020001 0x00040003 0x00000001 0 0) = .ok (.rectFill 1 2 3 4 1) := by
  decide
theorem test_decode_tri :
    decode (words 0x26 0x00010002 0x00040008 0x00070001 0x00000009 0) = .ok (.tri 2 1 8 4 1 7 9) := by decide
theorem test_decode_triFill :
    decode (words 0x27 0x00010002 0x00040008 0x00070001 0x00000009 0) = .ok (.triFill 2 1 8 4 1 7 9) := by decide
theorem test_decode_triGrad :
    decode (words 0x28 0x00000000 0x00000004 0x00040000 0x07E0F800 0x0000001F)
      = .ok (.triGrad 0 0 4 0 0 4 0xF800 0x07E0 0x001F) := by decide
theorem test_decode_circle : decode (words 0x29 0x00060005 0x0000FFFF 0x00000001 0 0) = .ok (.circle 5 6 (-1) 1) := by decide
theorem test_decode_circleFill : decode (words 0x2A 0x00060005 0x00000004 0x00000001 0 0) = .ok (.circleFill 5 6 4 1) := by
  decide
theorem test_decode_poly : decode (words 0x2B 0x07FE0008 0x00000004 0x00000001 0 0) = .ok (.poly 8 2046 4 1) := by decide
theorem test_decode_polyFill : decode (words 0x2C 1 2 3 4 5) = .ok .polyFill := by decide
theorem test_decode_char :
    decode (words 0x30 0x00050002 0x1111114C 0x001FF800 0 0) = .ok (.char 2 5 0x4C 0xF800 0x001F) := by decide
theorem test_decode_text :
    decode (words 0x31 0x00040001 0x00050003 0xFFFFF800 0 0) = .ok (.text 1 4 3 5 0xF800 0xFFFF) := by decide
theorem test_decode_textWidth : decode (words 0x32 0x99999999 0x000807F8 0 0 0) = .ok (.textWidth 2040 8) := by decide
theorem test_decode_pInit : decode (words 0x40 0xFFFFFFFE 0x00000005 0 0 0) = .ok (.pInit false 5) := by decide
theorem test_decode_pDeinit : decode (words 0x41 1 0 0 0 0) = .ok .pDeinit := by decide
theorem test_decode_pOrient : decode (words 0x42 0x00000003 0 0 0 0) = .ok (.pOrient true) := by decide
theorem test_decode_pSleep : decode (words 0x43 1 0 0 0 0) = .ok .pSleep := by decide
theorem test_decode_pWake : decode (words 0x44 1 0 0 0 0) = .ok .pWake := by decide
theorem test_decode_pBright : decode (words 0x45 0x12348000 0 0 0 0) = .ok (.pBright 0x8000) := by decide
theorem test_decode_pBrightPct : decode (words 0x46 0xFFFFFF64 0 0 0 0) = .ok (.pBrightPct 100) := by decide
theorem test_decode_pDraw : decode (words 0x47 0x0140FFFF 0 0 0 0) = .ok (.pDraw 0xFFFF 0x0140) := by decide
/-- R60: the upper 24 bits of `CMD` have no effect. -/
theorem test_decode_upperBits : decode (words 0x00000100 0 0 0 0 0) = .ok .nop := by decide
/-- V111. -/
theorem test_decode_illegal :
    [0x04, 0x14, 0x2D, 0x33, 0x48, 0xFF].all (fun op => (decode (words op 0 0 0 0 0)).toOption.isNone) = true := by decide
/-- R68's example: `LINE 0, 0, 4, 2, 0xF800`. -/
theorem test_encode_line : encode (.line 0 0 4 2 0xF800) = words 0x23 0 0x00020004 0x0000F800 0 0 := by decide
theorem test_tableWord : decodeTableWord 128 (0x0000F800 * 2 ^ 96 + 0x00020004 * 2 ^ 64 + 0x23) = some (.line 0 0 4 2 0xF800) := by
  decide

/-! ### Helpers for the steps -/

/-- A live buffer of `w` by `h` cells, all 0. -/
def cleared (w h : Nat) : State :=
  { State.reset with
    bufValid := true, bufW := BitVec.ofNat 16 w, bufH := BitVec.ofNat 16 h, mem := fillEntries 0 (w * h) 0 }

/-- A property of the state a command leaves; false if it leaves none. -/
def leaves (i : Instr) (s : State) (p : State → Bool) : Bool :=
  match exec i s with
  | .next t => p t
  | .fault _ => false
  | .refused _ => false

/-- Row `y` of the live buffer. -/
def row (t : State) (y : Nat) : List Color := (List.range t.bufW.toNat).map (fun x => t.pixelAt x y)

/-- The cells of the live buffer that are not 0, in row-major order, as (x, y). -/
def painted (t : State) : List (Nat × Nat) :=
  (List.range t.bufH.toNat).flatMap (fun y =>
    (List.range t.bufW.toNat).filterMap (fun x => if t.pixelAt x y = 0 then none else some (x, y)))

/-- The test font of 95_test_vectors.md. -/
def testFont : Font where
  lineHeight := 10
  glyphs :=
    ((((Vector.replicate 96 ⟨0, 0, 0, 0, 0, 0⟩).set 1 ⟨0, 64, 0, 0, 0, 0⟩).set 13 ⟨3, 40, 1, 2, 0, 0xFF⟩).set 42
      ⟨0, 72, 1, 3, 1, 0⟩).set 45 ⟨1, 96, 3, 3, 0, 0⟩
  bitmap := [0xE0, 0x93, 0x80, 0xC0]

/-- PRAM bytes from offset 0 on, before the cells of `cleared`. -/
def withPram (s : State) (bytes : List Byte) : State :=
  { s with mem := bytes.mapIdx (fun k b => (pramBase + k, b)) ++ s.mem }

/-- The panel after `P_INIT 1, 0` from reset, but for the trace. -/
def ready : State :=
  { State.reset with init := true, bus16 := true, blEn := true, blLevel := 65535, modeSwCnt := 1 }

/-- The events a command appends, oldest first. -/
def appended (s t : State) : List WireEvent := (t.wire.take (t.wire.length - s.wire.length)).reverse

/-! ### One step of each command -/

/-- V15: NOP clears an old error. -/
theorem test_nop : exec .nop { State.reset with err := .arg } = .next State.reset := rfl
/-- V6, V4. -/
theorem test_pack : leaves (.pack 0x56 0x34 0x12 0xFF) State.reset (fun t => t.res0 == 0x51A2) = true := by decide +kernel
theorem test_pack_low : leaves (.pack 8 4 8 0) State.reset (fun t => t.res0 == 0x0821) = true := by decide +kernel
/-- V10, W2. -/
theorem test_packA : leaves (.packA 200 100 50 128) State.reset (fun t => t.res0 == 0x6183) = true := by decide +kernel
theorem test_packA_full : leaves (.packA 200 100 50 255) State.reset (fun t => t.res0 == 0xCB26) = true := by decide +kernel
/-- W1. -/
theorem test_unpack : leaves (.unpack 0x11AA) State.reset (fun t => t.res0 == 0x000A0D02) = true := by decide +kernel
/-- V18: the product is exact; V16. -/
theorem test_bufCreate_alloc :
    leaves (.bufCreate 65535 2) State.reset (fun t => t.err == .alloc && !t.bufValid) = true := by decide +kernel
theorem test_bufCreate :
    leaves (.bufCreate 240 320) State.reset (fun t => t.bufInfo == 0x014000F0 && t.bufValid) = true := by decide +kernel
/-- V24. -/
theorem test_bufCreatePanel :
    leaves .bufCreatePanel { State.reset with portrait := false, panelW := 320, panelH := 240 }
      (fun t => t.bufInfo == 0x00F00140) = true := by decide +kernel
/-- V21. -/
theorem test_bufDestroy : leaves .bufDestroy (cleared 3 2) (fun t => t.bufInfo == 0 && !t.bufValid) = true := by decide +kernel
/-- V25. -/
theorem test_bufFill :
    leaves (.bufFill 0x7BEF) (cleared 3 2) (fun t => (t.hostRead .w32 0x40000).1 == 0x7BEF7BEF) = true := by decide +kernel
/-- V26, V27. -/
theorem test_pixel : leaves (.pixel 3 4 0x07E0) (cleared 8 8) (fun t => t.cellAt 35 == 0x07E0) = true := by decide +kernel
theorem test_pixel_outside : leaves (.pixel (-1) 0 1) (cleared 8 8) (fun t => painted t == [] && t.err == .ok) = true := by
  decide +kernel
/-- V28, V29. -/
theorem test_hline : leaves (.hline 2 1 3 1) (cleared 8 2) (fun t => painted t == [(2, 1), (3, 1), (4, 1)]) = true := by
  decide +kernel
theorem test_hline_clip : leaves (.hline (-2) 0 4 1) (cleared 8 2) (fun t => painted t == [(0, 0), (1, 0)]) = true := by
  decide +kernel
/-- V34, V36. -/
theorem test_hlineGrad :
    leaves (.hlineGrad 0 0 4 0x001F 0x0000) (cleared 4 1) (fun t => row t 0 == [0x001F, 0x0014, 0x000A, 0x0000]) = true := by
  decide +kernel
theorem test_hlineGrad_clip :
    leaves (.hlineGrad (-2) 0 5 0x0000 0xF800) (cleared 4 1) (fun t => row t 0 == [0x7800, 0xB800, 0xF800, 0]) = true := by
  decide +kernel
/-- V42; R88: the reverse line of the rule's example. -/
theorem test_line :
    leaves (.line (-2) (-1) 5 2 1) (cleared 4 4) (fun t => painted t == [(0, 0), (1, 0), (2, 1), (3, 1)]) = true := by
  decide +kernel
theorem test_line_reverse :
    leaves (.line 4 2 0 0 1) (cleared 5 3) (fun t => painted t == [(0, 0), (1, 1), (2, 1), (3, 2), (4, 2)]) = true := by
  decide +kernel
/-- V44. -/
theorem test_rect :
    leaves (.rect 1 1 4 3 1) (cleared 6 4)
      (fun t => painted t == [(1, 1), (2, 1), (3, 1), (4, 1), (1, 2), (4, 2), (1, 3), (2, 3), (3, 3), (4, 3)]) = true := by
  decide +kernel
/-- V47. -/
theorem test_rectFill :
    leaves (.rectFill (-1) (-1) 3 3 1) (cleared 4 4) (fun t => painted t == [(0, 0), (1, 0), (0, 1), (1, 1)]) = true := by
  decide +kernel
/-- V61: rows 3 and 7 of the example of R98. -/
theorem test_tri :
    leaves (.tri 2 1 8 4 1 7 1) (cleared 12 10)
      (fun t => row t 3 == [0, 0, 1, 0, 0, 0, 1, 1, 0, 0, 0, 0] && row t 7 == [0, 1, 1, 0, 0, 0, 0, 0, 0, 0, 0, 0]
        && (painted t).length == 19) = true := by decide +kernel
/-- V63: row 3 is [1, 6] and row 4 [1, 8]; V65: row 6 is [1, 8]. -/
theorem test_triFill :
    leaves (.triFill 2 1 8 4 1 7 1) (cleared 12 8)
      (fun t => row t 3 == [0, 1, 1, 1, 1, 1, 1, 0, 0, 0, 0, 0] && row t 4 == [0, 1, 1, 1, 1, 1, 1, 1, 1, 0, 0, 0]) = true := by
  decide +kernel
theorem test_triFill_truncates :
    leaves (.triFill 5 1 1 6 9 6 1) (cleared 10 8) (fun t => row t 6 == [0, 1, 1, 1, 1, 1, 1, 1, 1, 0]) = true := by
  decide +kernel
/-- V68, V69. -/
theorem test_triGrad :
    leaves (.triGrad 0 0 4 0 0 4 0xF800 0x07E0 0x001F) (cleared 5 5)
      (fun t => row t 1 == [0xB807, 0x79E7, 0x3BE7, 0x05C7, 0] && row t 3 == [0x3817, 0x01F7, 0, 0, 0]) = true := by
  decide +kernel
theorem test_triGrad_flat :
    leaves (.triGrad 6 1 1 1 3 1 0xF800 0x07E0 0x001F) (cleared 8 2)
      (fun t => row t 1 == [0, 0x07E0, 0x3640, 0x64A0, 0x9320, 0xC180, 0xF000, 0]) = true := by decide +kernel
/-- V49; V51: 12 cells. -/
theorem test_circle :
    leaves (.circle 3 3 1 1) (cleared 7 7) (fun t => painted t == [(3, 2), (2, 3), (4, 3), (3, 4)]) = true := by decide +kernel
/-- V52: 21 cells; rows 1 and 5 are x = 2..4. -/
theorem test_circleFill :
    leaves (.circleFill 3 3 2 1) (cleared 7 7)
      (fun t => row t 1 == [0, 0, 1, 1, 1, 0, 0] && row t 3 == [0, 1, 1, 1, 1, 1, 0] && (painted t).length == 21) = true := by
  decide +kernel
/-- V55, V57. -/
theorem test_poly :
    leaves (.poly 0 8 4 1) (withPram (cleared 5 5) [0, 0, 3, 0, 3, 0, 0, 0, 0, 0, 0, 0, 3, 0, 3, 0])
      (fun t => row t 0 == [1, 1, 1, 1, 0] && row t 1 == [1, 0, 0, 1, 0] && (painted t).length == 12) = true := by
  decide +kernel
theorem test_poly_arg : leaves (.poly 0 2046 3 1) (cleared 2 2) (fun t => t.err == .arg && painted t == []) = true := by
  decide +kernel
/-- V113. -/
theorem test_polyFill : leaves .polyFill State.reset (fun t => t.err == .unimpl) = true := by decide +kernel
/-- V76, V77. -/
theorem test_char :
    leaves (.char 2 5 0x4C 0xF800 0x001F) { cleared 6 6 with font := testFont }
      (fun t => painted t == [(2, 2), (2, 3), (2, 4), (3, 4), (4, 4)] && t.res0 == 6) = true := by decide +kernel
theorem test_char_opaque :
    leaves (.char 2 5 0x4C 0xF800 0x001F) { cleared 6 6 with font := testFont, opaqueS := true }
      (fun t => row t 2 == [0, 0, 0xF800, 0x001F, 0x001F, 0]) = true := by decide +kernel
/-- W9: row 4 of the placeholder. -/
theorem test_char_placeholder :
    leaves (.char 0 16 0x80 2 1) (cleared 14 17)
      (fun t => row t 4 == [0, 2, 1, 1, 1, 2, 2, 2, 2, 1, 1, 1, 2, 0] && t.res0 == 14) = true := by decide +kernel
/-- V80: the pen and a row; V83: two newlines. -/
theorem test_text :
    leaves (.text 1 4 0 5 1 0xFFFF) { withPram (cleared 20 5) [0x49, 0x4C, 0x2C, 10, 0x49] with font := testFont }
      (fun t => row t 3 == [0, 0, 1, 0, 0, 1, 1, 1, 0, 0, 0, 1, 0, 0, 0, 0, 0, 0, 0, 0] && t.res0 == 5 && t.res1 == 18)
      = true := by decide +kernel
theorem test_text_newlines :
    leaves (.text (-3) (-40) 0 2 1 2) { withPram (cleared 2 2) [10, 10] with font := testFont }
      (fun t => t.res0 == 0xFFFFFFFD && t.res1 == 0xFFFFFFF4) = true := by decide +kernel
/-- V86, V89. -/
theorem test_textWidth :
    leaves (.textWidth 0 5) { withPram State.reset [0x49, 0x4C, 0x2C, 10, 0x49] with font := testFont }
      (fun t => t.res0 == 16) = true := by decide +kernel
theorem test_textWidth_arg : leaves (.textWidth 2040 9) State.reset (fun t => t.err == .arg) = true := by decide +kernel
/-- V90: the registers and the number of events; V91. -/
theorem test_pInit :
    leaves (.pInit true 0) State.reset
      (fun t => t.panelState == 0x0703 && t.blState == 0x0001FFFF && t.modeSwCnt == 1 && t.wire.length == 52) = true := by
  decide +kernel
theorem test_pInit_again : exec (.pInit false 5) ready = .next ready := rfl
/-- V94. -/
theorem test_pDeinit :
    leaves .pDeinit ready
      (fun t => t.panelState == 0x0200 && t.modeSwCnt == 2 && appended ready t ==
        [.width false, .dc false, .cs false, .w8 0x28, .dc true, .cs true, .dc false, .cs false, .w8 0x10, .dc true,
          .cs true, .wait 5, .bl false 0]) = true := by decide +kernel
/-- W10. -/
theorem test_pOrient :
    leaves (.pOrient false) ready
      (fun t => t.panelSize == 0x00F00140 && appended ready t ==
        [.width false, .dc false, .cs false, .w8 0x36, .dc true, .w8 0x28, .cs true]) = true := by decide +kernel
/-- V95. -/
theorem test_pSleep : leaves .pSleep ready (fun t => t.panelState == 0x0B04 && t.blState == 0x0000FFFF) = true := by
  decide +kernel
/-- V97. -/
theorem test_pWake :
    leaves .pWake { ready with bus16 := false, asleep := true, blEn := false, blLevel := 0x1234 }
      (fun t => t.panelState == 0x0302 && t.blState == 0x00011234) = true := by decide +kernel
/-- V100, V96. -/
theorem test_pBright : leaves (.pBright 0x8000) ready (fun t => t.wire == [.bl true 32768]) = true := by decide +kernel
theorem test_pBright_asleep :
    leaves (.pBright 0x1234) { ready with asleep := true } (fun t => t.blState == 0x00001234) = true := by decide +kernel
/-- V99. -/
theorem test_pBrightPct : leaves (.pBrightPct 33) ready (fun t => t.blLevel == 21626) = true := by decide +kernel
theorem test_pBrightPct_clamp : leaves (.pBrightPct 255) ready (fun t => t.blLevel == 65535) = true := by decide +kernel

/-- A 2 × 1 buffer of 0xF800, 0x001F behind an initialized panel (the start of V101). -/
def drawing (bus : List BusOutcome) : State :=
  { ready with
    bufValid := true, bufW := 2, bufH := 1, bus := bus,
    mem := [(0x40000, 0x00), (0x40001, 0xF8), (0x40002, 0x1F), (0x40003, 0x00)] }

/-- V102: the window wraps. -/
theorem test_pDraw :
    leaves (.pDraw 0xFFFF 0x0140) (drawing [])
      (fun t => t.modeSwCnt == 3 && appended (drawing []) t ==
        [.width false, .dc false, .cs false, .w8 0x2A, .dc true, .w8 0xFF, .w8 0xFF, .w8 0x00, .w8 0x00, .cs true,
          .dc false, .cs false, .w8 0x2B, .dc true, .w8 0x01, .w8 0x40, .w8 0x01, .w8 0x40, .cs true,
          .dc false, .cs false, .w8 0x2C, .dc true, .width true, .w16 0xF800, .w16 0x001F, .cs true]) = true := by
  decide +kernel
/-- V108. -/
theorem test_pDraw_fail :
    leaves (.pDraw 10 20) (drawing [.fail])
      (fun t => t.err == .bus && t.modeSwCnt == 2 && !t.bus16 && appended (drawing [.fail]) t ==
        [.width false, .dc false, .cs false, .cs true]) = true := by decide +kernel
/-- V110. -/
theorem test_pDraw_stall :
    leaves (.pDraw 10 20) (drawing [.ok, .stall])
      (fun t => t.busy && (t.hostRead .w16 0x40000).1 == 0 && (t.hostRead .w16 0x40000).2.busyAcc) = true := by decide +kernel

/-! ### Host accesses and the schedule -/

/-- V123, V124, V126, V128. -/
theorem test_host_narrowRegister :
    State.reset.hostWrite .w16 0x00C 1 = { State.reset with badAcc := true } := rfl
theorem test_host_misaligned : ((cleared 3 2).hostRead .w32 0x40002).1 = 0 := by decide +kernel
theorem test_host_byteWrite :
    ({ cleared 3 1 with mem := fillEntries 0x3333 3 0 }.hostWrite .w8 0x40004 0xAB).cellAt 2 = 0x33AB := by decide +kernel
theorem test_host_clear :
    { State.reset with badAcc := true, cmdOvf := true }.hostWrite .w32 0x008 0x00040000
      = { State.reset with cmdOvf := true } := rfl
/-- A PPRT at host address 0x180000. -/
def placed (s : State) : State := { s with params := { s.params with window := 3 } }

/-- A property of the state after `n` steps; false if one of them stops. -/
def after (n : Nat) (s : State) (p : State → Bool) : Bool :=
  match (Host.Core.run Sys2Proof.core n s : Result) with
  | .next t => p t
  | .fault _ => false
  | .refused _ => false

/-- V92, V114: the assembled line; POLL reads STATUS until BUSY is 0, and the last read has ERR = E_NOTINIT. -/
theorem test_assembled :
    after 4 { placed State.reset with inputs := (assemble 0x180000 (.pDraw 0 0)).getD [] }
      (fun t => t.readLog == [0x00000500, 0x00000001] && !t.busy && t.inputs == []) = true := by decide +kernel
/-- R68, R130: with a stalled bus POLL never ends. -/
theorem test_poll_stalled :
    after 5 { placed State.reset with engine := .stalled, inputs := [.poll] }
      (fun t => t.readLog == [1, 1, 1, 1, 1] && t.inputs == [.poll]) = true := by decide +kernel
/-- R42: an access outside the 512 KiB window is not PPRT's. -/
theorem test_outsideWindow :
    [0x180000 + 0x80000, 0x180000 - 1].all (fun a =>
      ((placed State.reset).access (.write .w8 a 1)).badAcc == false) = true := by decide +kernel
/-- R69: `SPAN`, and the conditions of `VLINE`. -/
theorem test_pseudo :
    pseudoSpan 0 2 4 1 7 = assemble 0 (.hline 2 1 3 7) ∧ pseudoSpan 0 4 3 1 7 = none ∧
    pseudoVline 0 5 1 3 7 = assemble 0 (.line 5 1 5 3 7) ∧ pseudoVline 0 5 32767 2 7 = none := by decide
/-- R9: the parameters of the state are what the commands use. -/
theorem test_params :
    leaves (.bufCreate 3 3) { State.reset with params := { Config.params with maxCells := 8 } } (fun t => t.err == .alloc)
      = true := by decide +kernel
/-- What `withFetchWord` places is what the next step runs. -/
theorem test_withFetchWord :
    (match step (State.reset.withFetchWord 64 (0x00123456 * 2 ^ 32 + 0x01)) with
      | .next t => t.res0 == 0x51A2
      | .fault _ => false
      | .refused _ => false) = true := by decide +kernel

/-! ### Witnesses: the hypotheses of each statement hold together somewhere, clause by clause -/

/-- An accepted command. -/
def acceptedAs (op : Byte) (inputs : List Input) : State :=
  { State.reset with engine := .accepted op, inputs := inputs }

theorem witness_StepRunsTheAcceptedCommand :
    (∀ inputs, (acceptedAs 0x2C inputs).engine = .accepted 0x2C ∧
      decode ((acceptedAs 0x2C inputs).latch 0x2C) = .ok .polyFill) ∧
    (∀ inputs, (acceptedAs 0x48 inputs).engine = .accepted 0x48 ∧
      decode ((acceptedAs 0x48 inputs).latch 0x48) = .error (.badOpcode 0x48)) ∧
    (acceptedAs 0x2C []).inputs = [] ∧ (acceptedAs 0x2C [.run]).inputs = .run :: [] :=
  ⟨fun _ => ⟨rfl, rfl⟩, fun _ => ⟨rfl, rfl⟩, rfl, rfl⟩

theorem witness_DecodeOfEncode : (Instr.text (-32768) 32767 65535 0 0xFFFF 0).wf = true := by decide

theorem witness_DecodeIgnoresUnnamedArgBits :
    (Instr.pInit true 5).wf = true ∧ ∀ e ∈ namedBits (.pInit true 5),
      Args.get ⟨0xFFFFFFFF, 0xABCD0005, 1, 2, 3, 4, 5, 6⟩ e.1 &&& e.2
        = Args.get (encode (.pInit true 5)).args e.1 &&& e.2 := by decide

theorem witness_DecodeIgnoresUnlistedWords : (Instr.textWidth 65535 65535).wf = true := by decide

theorem witness_IllegalOpcodesAreRefused :
    [0x04, 0x0F, 0x14, 0x1F, 0x2D, 0x2F, 0x33, 0x3F, 0x48, 0xFF].all (fun n : Nat =>
      decide ((0x04 ≤ n ∧ n ≤ 0x0F) ∨ (0x14 ≤ n ∧ n ≤ 0x1F) ∨ (0x2D ≤ n ∧ n ≤ 0x2F) ∨ (0x33 ≤ n ∧ n ≤ 0x3F) ∨
        0x48 ≤ n)) = true ∧
    (acceptedAs 0xFF []).engine = .accepted (opField 0xFF) :=
  ⟨by decide, congrArg Engine.accepted (by decide)⟩

theorem witness_AssembledLineRunsItsCommand :
    (Instr.line (-32768) 0 32767 5 0xF800).wf = true ∧ State.reset.engine = .idle := ⟨by decide, rfl⟩

/-- A state with the invariant whose engine stands in the middle of a transport command. -/
def midway : State :=
  { ready with
    engine := .driving false [.word16 0xF800, .cs true], wire := [.width true, .bl true 65535],
    mem := [(0x1000, 1), (0x40000, 2)], bufValid := true, bufW := 1, bufH := 1 }

theorem witness_EveryStepKeepsTheInvariant : State.Inv midway ∧ ∃ t, step midway = .next t :=
  ⟨⟨⟨by decide, by decide, by decide, by decide, by decide, by decide, by decide, Nat.le_add_left 1 _⟩, by decide, by decide,
    by decide, by decide, by decide, by decide, by decide, by decide, by decide, by decide, by decide⟩, _, rfl⟩

theorem witness_ResetInputResetsEverything : { midway with inputs := [.reset, .tick] }.inputs = .reset :: [.tick] := rfl

theorem witness_OnlyResetEndsAStall :
    let s : State := { ready with engine := .stalled, inputs := [.access (.write .w32 4 0)] }
    s.engine = .stalled ∧ (∀ rest, s.inputs ≠ .reset :: rest) ∧ ∃ t, step s = .next t :=
  ⟨rfl, by simp, _, rfl⟩

/-- A command that ends, and one that a stalled word keeps from ending. -/
theorem witness_TicksEndWhereTheRunEnds :
    (∃ u, engineRun { midway with inputs := [] } = .next u ∧ u.busy = false) ∧
    ∃ u, engineRun { midway with inputs := [], bus := [.stall] } = .next u ∧ u.busy = true :=
  ⟨⟨_, rfl, rfl⟩, _, rfl, rfl⟩

theorem witness_RunningCommandHidesItsResults : ∃ t, engineTick midway = .next t ∧ t.busy = true := ⟨_, rfl, rfl⟩

theorem witness_ModeSwitchCounterCountsWidthEvents : ∃ t, exec (.pOrient false) ready = .next t := ⟨_, rfl⟩

theorem witness_OnlyBufferCommandsChangeTheSize :
    (∃ t, exec (.bufFill 3) (cleared 2 2) = .next t ∧ t.bufValid = true) ∧ (cleared 2 2).bufValid = true ∧
    (∀ w h, Instr.bufFill 3 ≠ .bufCreate w h) ∧ Instr.bufFill 3 ≠ .bufCreatePanel ∧ Instr.bufFill 3 ≠ .bufDestroy :=
  ⟨⟨_, rfl, rfl⟩, rfl, by simp, by simp, by simp⟩

theorem witness_FailedCommandChangesNothing :
    (∃ t, exec (.poly 1 8 4 1) (cleared 2 2) = .next t ∧ t.engine = .idle ∧ t.err ≠ .ok ∧ t.err ≠ .bus) ∧
    (∃ t, exec (.pDraw 10 20) (drawing [.ok, .fail]) = .next t ∧ t.engine = .idle ∧ t.err ≠ .ok) :=
  ⟨⟨_, rfl, rfl, by decide, by decide⟩, ⟨_, rfl, rfl, by decide⟩⟩

/-- An access that ends with PRAM, and one that ends with the live buffer. -/
theorem witness_HostReadsBackWhatItWrote :
    State.reset.busy = false ∧ region Config.params 0x017FC = .pram ∧ 0x017FC % Width.w32.bytes = 0 ∧
    0x017FC + Width.w32.bytes ≤ pramBase + Config.params.pramBytes ∧
    (cleared 3 1).busy = false ∧ region (cleared 3 1).params 0x40004 = .pbuf ∧ (cleared 3 1).bufValid = true ∧ 0x40004 % Width.w16.bytes = 0 ∧
    0x40004 + Width.w16.bytes ≤ pbufBase + 2 * ((cleared 3 1).bufW.toNat * (cleared 3 1).bufH.toNat) := by decide

/-- Each width at the end of PRAM and at the end of the live buffer. -/
theorem witness_HostWindowIsLittleEndian :
    let inside (s : State) (off n : Nat) : Prop := off % n = 0 ∧
      (region s.params off = .pram ∧ off + n ≤ pramBase + s.params.pramBytes ∨
        region s.params off = .pbuf ∧ s.bufValid = true ∧ off + n ≤ pbufBase + 2 * (s.bufW.toNat * s.bufH.toNat))
    (cleared 2 1).busy = false ∧
    inside (cleared 2 1) 0x017FF 1 ∧ inside (cleared 2 1) 0x017FE 2 ∧ inside (cleared 2 1) 0x017FC 4 ∧
    inside (cleared 2 1) 0x40003 1 ∧ inside (cleared 2 1) 0x40002 2 ∧ inside (cleared 2 1) 0x40000 4 ∧
    0x40002 = pbufBase + 2 * 1 ∧ 0x017FE = pramBase + 2046 :=
  ⟨rfl, ⟨rfl, .inl ⟨rfl, by decide⟩⟩, ⟨rfl, .inl ⟨rfl, by decide⟩⟩, ⟨rfl, .inl ⟨rfl, by decide⟩⟩,
    ⟨rfl, .inr ⟨rfl, rfl, by decide⟩⟩, ⟨rfl, .inr ⟨rfl, rfl, by decide⟩⟩, ⟨rfl, .inr ⟨rfl, rfl, by decide⟩⟩, rfl, rfl⟩

theorem witness_BadAccessIsRefused :
    region Config.params 0x01800 = .unmapped ∧ region Config.params 0x3FFFF = .unmapped ∧ region Config.params 0x65800 = .unmapped ∧
    region Config.params 0x00002 = .regs ∧ Width.w8 ≠ .w32 ∧ 0x00002 % 4 ≠ 0 ∧ State.reset.readReg 0x0002C = none ∧
    State.reset.readReg 0x00060 = none ∧ State.reset.busy = false ∧ region Config.params 0x017FE = .pram ∧
    0x017FE % Width.w32.bytes ≠ 0 ∧
    region { Config.params with pramBytes := 2047 } 0x017FE = .pram ∧ pramBase + 2047 < 0x017FE + Width.w16.bytes ∧
    region Config.params 0x40000 = .pbuf ∧ State.reset.bufValid = false ∧ (cleared 3 1).busy = false ∧
    region Config.params 0x40004 = .pbuf ∧ pbufBase + 2 * ((cleared 3 1).bufW.toNat * (cleared 3 1).bufH.toNat) < 0x40004 + Width.w32.bytes := by
  decide

theorem witness_BusyAccessIsRefused :
    midway.busy = true ∧ region Config.params 0x01000 = .pram ∧ region Config.params 0x657FF = .pbuf := by decide

theorem witness_CmdWriteIssuesOrOverflows : midway.busy = true ∧ State.reset.busy = false := by decide

theorem witness_RegisterWrites : (7 : Nat) < 8 ∧ 0x024 ∈ [0x000, 0x010, 0x014, 0x018, 0x01C, 0x020, 0x024] := by decide

theorem witness_RegisterReads : (7 : Nat) < 8 := by decide

theorem witness_PackTruncatesEachChannel : (255 : Nat) < 256 ∧ (0 : Nat) < 256 := by decide

theorem witness_PackAlphaPremultiplies : (255 : Nat) < 256 ∧ (254 : Nat) < 256 ∧ (0 : Nat) < 256 := by decide

theorem witness_BufferCreation :
    (cleared 2 2).bufValid = true ∧ State.reset.bufValid = false ∧ (65535 : Nat) < 65536 ∧
    State.reset.params.maxCells < 241 * 320 ∧ 240 * 320 ≤ State.reset.params.maxCells ∧
    0 * 65535 ≤ State.reset.params.maxCells ∧
    State.reset.panelW.toNat * State.reset.panelH.toNat ≤ State.reset.params.maxCells ∧
    State.reset.params.maxCells < { State.reset with panelW := 65535, panelH := 2 }.panelW.toNat * 2 := by decide

theorem witness_BufferDestruction : State.reset.bufValid = false ∧ (cleared 2 2).bufValid = true := by decide

theorem witness_FillSetsEveryCell : State.reset.bufValid = false ∧ (cleared 2 2).bufValid = true := by decide

theorem witness_DrawWithoutBufferFails :
    State.reset.bufValid = false ∧ (∃ x y c, Instr.pixel (-1) 0 7 = .pixel x y c) := ⟨rfl, _, _, _, rfl⟩

/-- A live buffer: the hypothesis of the statements on drawing. -/
theorem witness_BoxesAndSpansDrawTheirCells : (cleared 8 8).bufValid = true := rfl
theorem witness_GradientRowDrawsItsColours : (cleared 8 1).bufValid = true := rfl
theorem witness_LineDrawsItsWalk : (cleared 4 4).bufValid = true := rfl
theorem witness_CirclesDrawTheirMirrorImages : (cleared 13 13).bufValid = true := rfl
theorem witness_TriangleOutline : (cleared 12 10).bufValid = true := rfl

theorem witness_InterpolationStaysBetweenTheEnds :
    (0 : Int) ≤ 0 ∧ (0 : Int) ≤ 5 ∧ (5 : Int) ≤ 5 ∧ (1 : Int) ≤ 1 ∧
    ⟨4, 0, 0x0000⟩ ∈ gradRow 0 0 5 0xF800 0x0000 := by decide

/-- A shallow line with a tie, a steep one with a tie, and a cell of each. -/
theorem witness_LineWalkReachesItsEnd :
    |(1 : Int) - 0| ≤ |2 - 0| ∧ (0 : Int) < |2 - 0| ∧ (⟨1, 0, 7⟩ : Pixel) ∈ lineFn 0 0 2 1 7 ∧
    |(1 : Int) - 0| < |2 - 0| ∧ (⟨0, 1, 7⟩ : Pixel) ∈ lineFn 0 0 1 2 7 := by decide

theorem witness_CircleWalkIsTheMidpointCircle : (1 : Int) ≤ 1 ∧ (4, 3) ∈ circleWalk 5 := by decide

theorem witness_PolygonOutline :
    (cleared 4 4).bufValid = true ∧ 2 < 3 ∧ 3 ≤ 3 ∧ 1 % 2 = 1 ∧ (cleared 4 4).params.pramBytes < 2044 + 2 * 3 ∧
    2042 % 2 = 0 ∧ 2042 + 2 * 3 ≤ (cleared 4 4).params.pramBytes := by
  decide

theorem witness_FilledTriangleRows :
    (cleared 12 10).bufValid = true ∧
    sort3 ⟨8, 4, 1⟩ ⟨2, 1, 1⟩ ⟨1, 7, 1⟩ = (⟨2, 1, 1⟩, ⟨8, 4, 1⟩, ⟨1, 7, 1⟩) ∧
    sort3 ⟨5, 2, 1⟩ ⟨1, 2, 1⟩ ⟨3, 2, 1⟩ = (⟨5, 2, 1⟩, ⟨1, 2, 1⟩, ⟨3, 2, 1⟩) := by decide

theorem witness_GradientTriangleRows :
    (cleared 8 2).bufValid = true ∧
    sort3 ⟨6, 1, 0xF800⟩ ⟨1, 1, 0x07E0⟩ ⟨3, 0, 0x001F⟩ = (⟨3, 0, 0x001F⟩, ⟨6, 1, 0xF800⟩, ⟨1, 1, 0x07E0⟩) := by decide

theorem witness_CharDrawsItsGlyph :
    let s := { cleared 6 6 with font := testFont }
    s.bufValid = true ∧ 32 ≤ 0x4C ∧ 0x4C ≤ 126 ∧ s.font.glyphs.toList[0x4C - 31]? = some ⟨1, 96, 3, 3, 0, 0⟩ ∧
    s.font.bitmap[1 + 8 / 8]? = some 0x80 ∧ s.font.glyphs.toList[32 - 31]? = some ⟨0, 64, 0, 0, 0, 0⟩ ∧ s.font.glyphs.toList[126 - 31]? = some ⟨0, 0, 0, 0, 0, 0⟩ := by
  decide

theorem witness_CharDrawsThePlaceholder : (cleared 14 17).bufValid = true ∧ 31 < 32 ∧ 126 < 127 := by decide

theorem witness_TextDrawsCharacterByCharacter :
    let s := withPram (cleared 2 2) [10, 13, 0x49]
    s.bufValid = true ∧ s.params.pramBytes < 2048 + 1 ∧ 2048 + 0 ≤ s.params.pramBytes ∧ 0 + 3 ≤ s.params.pramBytes ∧
    0 < 3 ∧ s.pram8 (0 + 0) = 10 ∧ s.pram8 (0 + 1) = 13 ∧ 2 < 3 ∧ s.pram8 (0 + 2) ≠ 10 ∧ s.pram8 (0 + 2) ≠ 13 :=
  ⟨rfl, by decide, by decide, by decide, by decide, rfl, rfl, by decide, by decide, by decide⟩

theorem witness_TextWidthSumsTheAdvances :
    State.reset.params.pramBytes < 2040 + 9 ∧ 2040 + 8 ≤ State.reset.params.pramBytes ∧
    2048 + 0 ≤ State.reset.params.pramBytes := by decide

theorem witness_TransportNeedsInit :
    State.reset.init = false ∧ (∃ x y, Instr.pDraw 0 0 = .pDraw x y) := ⟨rfl, _, _, rfl⟩

/-- The list of outcomes may be empty or hold `ok`s. -/
theorem witness_busOk : State.BusOk ready ∧ State.BusOk { ready with bus := [.ok, .ok] } :=
  ⟨fun _ h => by simp [ready, State.reset] at h, fun o h => by simpa using h⟩

theorem witness_PanelInit : ready.init = true ∧ State.reset.init = false ∧ State.BusOk State.reset :=
  ⟨rfl, rfl, fun _ h => by simp [State.reset] at h⟩

theorem witness_PanelDeinit :
    State.reset.init = false ∧ ready.init = true ∧ ready.asleep = false ∧ { ready with asleep := true }.asleep = true ∧
    State.BusOk ready := ⟨rfl, rfl, rfl, rfl, witness_busOk.1⟩

theorem witness_PanelOrient : ready.init = true ∧ State.BusOk ready := ⟨rfl, witness_busOk.1⟩

theorem witness_PanelSleepAndWake :
    ready.init = true ∧ ready.asleep = false ∧ { ready with asleep := true }.asleep = true ∧ State.BusOk ready :=
  ⟨rfl, rfl, rfl, witness_busOk.1⟩

theorem witness_PanelBrightness :
    ready.init = true ∧ (65535 : Nat) < 65536 ∧ ∃ t, exec (.pBright 65535) ready = .next t := ⟨rfl, by decide, _, rfl⟩

theorem witness_PanelDraw :
    (drawing []).init = true ∧ (65535 : Nat) < 65536 ∧ ready.bufValid = false ∧ (drawing []).bufValid = true ∧
    (drawing []).bufW ≠ 0 ∧ (drawing []).bufH ≠ 0 ∧ { drawing [] with bufW := 0 }.bufW = 0 ∧ State.BusOk (drawing []) :=
  ⟨rfl, by decide, rfl, rfl, by decide, by decide, rfl, fun _ h => by simp [drawing] at h⟩

theorem witness_BusWordOutcomes :
    (∃ b, Act.word8 7 = .word8 b) ∧ (∃ h, Act.word16 7 = .word16 h) ∧ (drawing []).bus.head? = none ∧
    (drawing [.ok]).bus.head? = some .ok ∧ (drawing [.fail]).bus.head? = some .fail ∧
    (drawing [.stall]).bus.head? = some .stall := ⟨⟨_, rfl⟩, ⟨_, rfl⟩, rfl, rfl, rfl, rfl⟩

end Sys2Proof.Tests
end

section
/-! PROOFS. The encoding (30_encoding.md): what the decoder's fields return of an assembled argument word, the words of a
well-formed command among any others (R60), and the illegal opcodes (R66). -/

open Sys2Proof Sys2Proof.Machine

namespace Sys2Proof.Laws

/-! ### Fields of the assembled argument words (R61, R68) -/

@[simp] theorem lo16_halves (lo hi : Half) : lo16 (halves lo hi) = lo := BitVec.extractLsb'_append_eq_right

@[simp] theorem hi16_halves (lo hi : Half) : hi16 (halves lo hi) = hi := BitVec.extractLsb'_append_eq_left

@[simp] theorem lo16_half (lo : Half) : lo16 (half lo) = lo := lo16_halves lo 0

/-- Byte lane `k` of a word of four lanes is its `k`-th byte (R11). -/
@[simp] theorem byteOf_lanes (b0 b1 b2 b3 : Byte) :
    byteOf (lanes b0 b1 b2 b3) 0 = b0 ∧ byteOf (lanes b0 b1 b2 b3) 1 = b1 ∧
    byteOf (lanes b0 b1 b2 b3) 2 = b2 ∧ byteOf (lanes b0 b1 b2 b3) 3 = b3 := by
  refine ⟨?_, ?_, ?_, ?_⟩ <;> ext k hk <;> grind [byteOf, lanes]

@[simp] theorem flag0_ofBool (b : Bool) : flag0 ((BitVec.ofBool b).setWidth 32) = b := by
  cases b <;> rfl

@[simp] theorem toInt_s16 {i : Int} (h : inS16 i = true) : (s16 i).toInt = i := by
  simp only [inS16, Bool.and_eq_true, decide_eq_true_eq] at h
  obtain ⟨hlo, hhi⟩ := h
  exact BitVec.toInt_ofInt_eq_self (by decide) (by simpa using hlo) (by omega)

@[simp] theorem toNat_u16 {n : Nat} (h : inU16 n = true) : (u16 n).toNat = n :=
  Nat.mod_eq_of_lt (of_decide_eq_true h)

@[simp] theorem toNat_u8 {n : Nat} (h : inU8 n = true) : (u8 n).toNat = n :=
  Nat.mod_eq_of_lt (of_decide_eq_true h)

/-! ### The words of a well-formed command, among any others (R59, R60, R62) -/

/-- The decoder reads only `CMD[7:0]` and the ARGs the command's format lists. The cases follow the operands the format
is made of (R61). -/
theorem decode_setAll_argWords (i : Instr) (hi : BitVec 24) (a : Args) (hw : i.wf = true) :
    decode ⟨hi ++ opcode i, a.setAll (argWords i)⟩ = .ok i := by
  cases i
  case nop | bufCreatePanel | bufDestroy | polyFill | pDeinit | pSleep | pWake =>
    simp [decode, opcode, opField_append]
  case unpack | bufFill =>
    simp [decode, opcode, opField_append, argWords, Args.setAll, Args.set]
  case pInit | pOrient =>
    simp_all [decode, opcode, opField_append, argWords, Args.setAll, Args.set, Instr.wf, u16Lo]
  case pack | packA | pBrightPct =>
    simp_all [decode, opcode, opField_append, argWords, Args.setAll, Args.set, Instr.wf, u8At]
  case bufCreate | poly | textWidth | pBright | pDraw =>
    simp_all [decode, opcode, opField_append, argWords, Args.setAll, Args.set, Instr.wf, u16Lo, u16Hi]
  case pixel | hline | hlineGrad | line | rect | rectFill | tri | triFill | triGrad | circle | circleFill =>
    simp_all [decode, opcode, opField_append, argWords, Args.setAll, Args.set, Instr.wf, point, s16Lo, s16Hi]
  case char | text =>
    simp_all [decode, opcode, opField_append, argWords, Args.setAll, Args.set, Instr.wf, point, s16Lo, s16Hi,
      u8At, u16Lo, u16Hi]

/-- Settles O4, by the round trip of every operand's field. -/
theorem decodeIgnoresUnlistedWords : Obligations.DecodeIgnoresUnlistedWords := decode_setAll_argWords

/-! ### The illegal opcodes (R66) -/

/-- The five ranges of R66. -/
def IllegalOpcode (n : Nat) : Prop :=
  (0x04 ≤ n ∧ n ≤ 0x0F) ∨ (0x14 ≤ n ∧ n ≤ 0x1F) ∨ (0x2D ≤ n ∧ n ≤ 0x2F) ∨ (0x33 ≤ n ∧ n ≤ 0x3F) ∨ 0x48 ≤ n

theorem not_illegalOpcode_opcode (i : Instr) : ¬ IllegalOpcode (opcode i).toNat := by
  unfold IllegalOpcode
  cases i <;> simp [opcode]

/-- The decoder answers a command of the opcode it was given, or refuses an opcode that is not assigned (R64, R66). -/
theorem decode_cases (c : Code) :
    (∃ i, decode c = .ok i ∧ opcode i = opField c.cmd) ∨
    (decode c = .error (.badOpcode (opField c.cmd)) ∧ IllegalOpcode (opField c.cmd).toNat) := by
  unfold decode
  split
  case h_33 =>
    refine .inr ⟨rfl, ?_⟩
    unfold IllegalOpcode
    simp only [imp_false] at *
    omega
  all_goals next h => exact .inl ⟨_, rfl, BitVec.eq_of_toNat_eq h.symm⟩

theorem decode_eq_badOpcode_iff (c : Code) :
    decode c = .error (.badOpcode (opField c.cmd)) ↔ IllegalOpcode (opField c.cmd).toNat := by
  obtain ⟨i, hok, hop⟩ | ⟨herr, hbad⟩ := decode_cases c
  · simp [hok, ← hop, not_illegalOpcode_opcode]
  · simp [herr, hbad]

theorem opField_latch (s : State) (op : Byte) : opField (s.latch op).cmd = op := opField_append 0 op

theorem engineRun_of_illegalOpcode {s : State} {op : Byte} (hbad : IllegalOpcode op.toNat)
    (hacc : s.engine = .accepted op) : engineRun s = .next (s.complete .badOp) := by
  have herr : decode (s.latch op) = .error (.badOpcode op) := by
    simpa only [opField_latch] using (decode_eq_badOpcode_iff (s.latch op)).2 (by rwa [opField_latch])
  simp only [engineRun, hacc, herr]

/-- Settles O6, by the decoder's two outcomes. -/
theorem illegalOpcodesAreRefused : Obligations.IllegalOpcodesAreRefused := fun c =>
  ⟨decode_eq_badOpcode_iff c, fun _ hbad hacc => engineRun_of_illegalOpcode hbad hacc⟩

end Sys2Proof.Laws
end

section
/-! PROOFS. The color codec's family (40_codec.md). -/

open Sys2Proof Sys2Proof.Machine

namespace Sys2Proof.Laws

theorem exec_nop (s : State) : exec .nop s = .next (s.complete .ok) := rfl

/-- Settles O26: NOP is the bare completion with `E_OK`, which writes `ERR` and the engine and no other field. -/
theorem nopOnlyCompletes : Obligations.NopOnlyCompletes := fun s => by
  rw [exec_nop, State.complete]

end Sys2Proof.Laws
end

section
/-! PROOFS. The pixel buffer's family (41_buffer.md): what BUF_DESTROY does (R79), and that no command but the three of
creation and destruction writes BUF_VALID, BUF_W or BUF_H (R75). -/

open Sys2Proof Sys2Proof.Machine

namespace Sys2Proof.Laws

/-! ### BUF_DESTROY (R79) -/

theorem exec_bufDestroy_noBuf {s : State} (hnone : s.bufValid = false) :
    exec .bufDestroy s = .next (s.complete .noBuf) := by
  simp [exec, execBufDestroy, hnone]

theorem exec_bufDestroy_live {s : State} (hlive : s.bufValid = true) :
    exec .bufDestroy s = .next (State.complete { s with bufValid := false, bufW := 0, bufH := 0 } .ok) := by
  simp [exec, execBufDestroy, hlive]

/-- Settles O31, by the two outcomes of the command: the completion writes `ERR` and the engine only. -/
theorem bufferDestruction : Obligations.BufferDestruction := fun _ =>
  ⟨exec_bufDestroy_noBuf, exec_bufDestroy_live⟩

/-! ### The answers that leave the buffer's registers alone (R75) -/

/-- The answer `r` leaves BUF_VALID, BUF_W and BUF_H as they are in `s`. -/
def KeepsBuffer (s : State) (r : Result) : Prop :=
  ∀ t, r = .next t → t.bufValid = s.bufValid ∧ t.bufW = s.bufW ∧ t.bufH = s.bufH

@[simp] theorem keepsBuffer_next_iff (s t : State) :
    KeepsBuffer s (.next t) ↔ t.bufValid = s.bufValid ∧ t.bufW = s.bufW ∧ t.bufH = s.bufH := by
  simp [KeepsBuffer]

theorem keepsBuffer_complete (s : State) (e : Err) : KeepsBuffer s (.next (s.complete e)) := by simp

theorem keepsBuffer_completeRes0 (s : State) (v : Word) : KeepsBuffer s (.next (s.completeRes0 v)) := by simp

theorem keepsBuffer_draw (s : State) (ps : List Pixel) : KeepsBuffer s (s.draw ps) := by
  cases hv : s.bufValid with
  | true => simp [State.draw_live hv]
  | false => simp [State.draw_noBuf hv]

/-- A transport command touches nothing of the buffer, also when the bus fails or stalls (R130). -/
theorem keepsBuffer_finish (s : State) (p : Plan) : KeepsBuffer s (.next (p.finish s)) := by
  cases p with
  | stop e => exact keepsBuffer_complete s e
  | drive isInit acts =>
    have hout : OutsideTransport s (runActs isInit acts s) := runActs_outside isInit acts s
    exact (keepsBuffer_next_iff _ _).2 ⟨hout.bufValid, hout.bufW, hout.bufH⟩

theorem keepsBuffer_bufFill (s : State) (c : Color) : KeepsBuffer s (execBufFill c s) := by
  cases hv : s.bufValid <;> simp [execBufFill, hv]

theorem keepsBuffer_poly (s : State) (xs ys n : Nat) (c : Color) : KeepsBuffer s (execPoly xs ys n c s) := by
  unfold execPoly
  split_ifs
  · exact keepsBuffer_complete s .noBuf
  · exact keepsBuffer_complete s .ok
  · exact keepsBuffer_draw s _
  · exact keepsBuffer_complete s .arg

theorem keepsBuffer_char (s : State) (x y : Int) (code : Nat) (fg bg : Color) :
    KeepsBuffer s (execChar x y code fg bg s) := by
  cases hv : s.bufValid <;> simp [execChar, hv]

theorem keepsBuffer_text (s : State) (x y : Int) (off len : Nat) (fg bg : Color) :
    KeepsBuffer s (execText x y off len fg bg s) := by
  unfold execText
  split_ifs <;> simp

theorem keepsBuffer_textWidth (s : State) (off len : Nat) : KeepsBuffer s (execTextWidth off len s) := by
  unfold execTextWidth
  split_ifs <;> simp

/-! ### Every command -/

/-- Every command but the three either completes at once, writes cells and the result registers, or drives the panel. -/
theorem exec_keepsBuffer {i : Instr} (s : State) (hcreate : ∀ w h, i ≠ .bufCreate w h) (hpanel : i ≠ .bufCreatePanel)
    (hdestroy : i ≠ .bufDestroy) : KeepsBuffer s (exec i s) := by
  cases i
  case bufCreate w h => exact absurd rfl (hcreate w h)
  case bufCreatePanel => exact absurd rfl hpanel
  case bufDestroy => exact absurd rfl hdestroy
  case nop | polyFill => exact keepsBuffer_complete s _
  case pack | packA | unpack => exact keepsBuffer_completeRes0 s _
  case bufFill c => exact keepsBuffer_bufFill s c
  case pixel | hline | hlineGrad | line | rect | rectFill | tri | triFill | triGrad | circle | circleFill =>
    exact keepsBuffer_draw s _
  case poly xs ys n c => exact keepsBuffer_poly s xs ys n c
  case char x y code fg bg => exact keepsBuffer_char s x y code fg bg
  case text x y off len fg bg => exact keepsBuffer_text s x y off len fg bg
  case textWidth off len => exact keepsBuffer_textWidth s off len
  case pInit | pDeinit | pOrient | pSleep | pWake | pBright | pBrightPct | pDraw => exact keepsBuffer_finish s _

/-- A creation finds the live buffer and fails (R77, R78). -/
theorem keepsBuffer_createBuffer_live {s : State} (hlive : s.bufValid = true) (w h : Nat) :
    KeepsBuffer s (.next (s.createBuffer w h)) := by
  obtain ⟨_, heq⟩ | ⟨hnone, _⟩ | ⟨hnone, _⟩ := s.createBuffer_cases w h
  · rw [heq]; exact keepsBuffer_complete s _
  all_goals simp [hlive] at hnone

/-- With a live buffer a creation fails and a destruction leaves none, so a buffer that stays live was not written. -/
theorem exec_keepsBuffer_of_staysLive {i : Instr} {s t : State} (hexec : exec i s = .next t)
    (hlive : s.bufValid = true) (hstays : t.bufValid = true) :
    t.bufValid = s.bufValid ∧ t.bufW = s.bufW ∧ t.bufH = s.bufH := by
  cases i
  case bufCreate w h => exact keepsBuffer_createBuffer_live hlive w h t hexec
  case bufCreatePanel => exact keepsBuffer_createBuffer_live hlive _ _ t hexec
  case bufDestroy =>
    obtain rfl := Host.Outcome.next.inj ((exec_bufDestroy_live hlive).symm.trans hexec)
    simp at hstays
  all_goals exact exec_keepsBuffer s (by simp) (by simp) (by simp) t hexec

/-- Settles O17, by the commands that keep the buffer's registers and by what the other three do to a live buffer. -/
theorem onlyBufferCommandsChangeTheSize : Obligations.OnlyBufferCommandsChangeTheSize := fun _ s t hexec =>
  ⟨fun hcreate hpanel hdestroy => exec_keepsBuffer s hcreate hpanel hdestroy t hexec,
    fun hlive hstays => (exec_keepsBuffer_of_staysLive hexec hlive hstays).2⟩

end Sys2Proof.Laws
end

section
/-! PROOFS. The raster family (42_raster.md): POLY_FILL, the documented gap (R95). -/

open Sys2Proof Sys2Proof.Machine

namespace Sys2Proof.Laws

theorem exec_polyFill (s : State) : exec .polyFill s = .next (s.complete .unimpl) := rfl

/-- Settles O42: POLY_FILL is the bare completion with `E_UNIMPL`, with no check of the buffer before it, and the
completion writes `ERR` and the engine only. -/
theorem polygonFillIsUnimplemented : Obligations.PolygonFillIsUnimplemented := fun s => by
  rw [exec_polyFill, State.complete]

end Sys2Proof.Laws
end

section
/-! PROOFS. The triangle family (43_triangle.md): the vertex sort as three compare-and-swap steps on neighbours (R96). -/

open Sys2Proof Sys2Proof.Machine

namespace Sys2Proof.Laws

/-- One compare of `Sort3` (R96): two neighbours are swapped when the first one's y is strictly greater. -/
def compareSwap (v w : Vertex) : Vertex × Vertex := if v.y > w.y then (w, v) else (v, w)

/-- `Sort3` is the compares (0,1), (1,2), (0,1). -/
theorem sort3_eq_compareSwap (v0 v1 v2 : Vertex) :
    sort3 v0 v1 v2 =
      ((compareSwap (compareSwap v0 v1).1 (compareSwap (compareSwap v0 v1).2 v2).1).1,
       (compareSwap (compareSwap v0 v1).1 (compareSwap (compareSwap v0 v1).2 v2).1).2,
       (compareSwap (compareSwap v0 v1).2 v2).2) := rfl

@[simp] theorem compareSwap_fst_y (v w : Vertex) : (compareSwap v w).1.y = min v.y w.y := by
  unfold compareSwap; split <;> simp <;> omega

@[simp] theorem compareSwap_snd_y (v w : Vertex) : (compareSwap v w).2.y = max v.y w.y := by
  unfold compareSwap; split <;> simp <;> omega

theorem sort3_ascending (v0 v1 v2 : Vertex) :
    (sort3 v0 v1 v2).1.y ≤ (sort3 v0 v1 v2).2.1.y ∧ (sort3 v0 v1 v2).2.1.y ≤ (sort3 v0 v1 v2).2.2.y := by
  simp only [sort3_eq_compareSwap, compareSwap_fst_y, compareSwap_snd_y]
  omega

/-- The same vertices, with those of each y in the same order. -/
def StablePerm (l l' : List Vertex) : Prop :=
  List.Perm l l' ∧ ∀ y : Int, l.filter (fun v => decide (v.y = y)) = l'.filter (fun v => decide (v.y = y))

theorem StablePerm.trans {l l' l'' : List Vertex} (h : StablePerm l l') (h' : StablePerm l' l'') : StablePerm l l'' :=
  ⟨h.1.trans h'.1, fun y => (h.2 y).trans (h'.2 y)⟩

/-- Rearranging a part of a list leaves the order of the vertices around it. -/
theorem StablePerm.append {l l' : List Vertex} (h : StablePerm l l') (pre post : List Vertex) :
    StablePerm (pre ++ l ++ post) (pre ++ l' ++ post) :=
  ⟨(h.1.append_left pre).append_right post, fun y => by simp only [List.filter_append, h.2 y]⟩

/-- A compare swaps only vertices of different y, so no filter on one y sees the swap. -/
theorem stablePerm_compareSwap (v w : Vertex) : StablePerm [(compareSwap v w).1, (compareSwap v w).2] [v, w] := by
  unfold compareSwap
  split
  case isTrue hgt =>
    refine ⟨.swap v w [], fun y => ?_⟩
    by_cases hv : v.y = y
    · have hw : w.y ≠ y := by omega
      simp [hv, hw]
    · simp [List.filter_cons, hv]
  case isFalse => exact ⟨.refl _, fun _ => rfl⟩

/-- Each of the three compares rearranges two neighbours stably, the last one of `Sort3` coming first here. -/
theorem stablePerm_sort3 (v0 v1 v2 : Vertex) :
    StablePerm [(sort3 v0 v1 v2).1, (sort3 v0 v1 v2).2.1, (sort3 v0 v1 v2).2.2] [v0, v1, v2] := by
  rw [sort3_eq_compareSwap]
  have first := (stablePerm_compareSwap v0 v1).append [] [v2]
  have second := (stablePerm_compareSwap (compareSwap v0 v1).2 v2).append [(compareSwap v0 v1).1] []
  have third := (stablePerm_compareSwap (compareSwap v0 v1).1 (compareSwap (compareSwap v0 v1).2 v2).1).append
    [] [(compareSwap (compareSwap v0 v1).2 v2).2]
  exact third.trans (second.trans first)

/-- Settles O44: the least and greatest of y after each compare give the order, and the compares are stable one by one. -/
theorem vertexSortIsStable : Obligations.VertexSortIsStable := fun v0 v1 v2 =>
  have ⟨hab, hbc⟩ := sort3_ascending v0 v1 v2
  ⟨hab, hbc, stablePerm_sort3 v0 v1 v2⟩

end Sys2Proof.Laws
end

section
/-! PROOFS. The panel transport's family (45_transport.md): the check that the six commands of R116 make first. -/

open Sys2Proof Sys2Proof.Machine

namespace Sys2Proof.Laws

/-! ### The check of R116 -/

/-- Before P_INIT the check answers `E_NOTINIT` whatever the command would drive. -/
theorem whenInit_of_not_init {s : State} (hinit : s.init = false) (p : Plan) : s.whenInit p = .stop .notInit := by
  simp [State.whenInit, hinit]

@[simp] theorem finish_stop (s : State) (e : Err) : (Plan.stop e).finish s = s.complete e := rfl

/-- The six commands of R116. -/
def NeedsInit (i : Instr) : Prop :=
  (∃ p, i = .pOrient p) ∨ i = .pSleep ∨ i = .pWake ∨ (∃ v, i = .pBright v) ∨ (∃ p, i = .pBrightPct p) ∨
    (∃ x y, i = .pDraw x y)

/-- Each of the six makes the check before anything else: its whole meaning is a plan under it. -/
theorem exec_of_needsInit {i : Instr} (hi : NeedsInit i) (s : State) :
    ∃ p, exec i s = .next ((s.whenInit p).finish s) := by
  obtain ⟨_, rfl⟩ | rfl | rfl | ⟨_, rfl⟩ | ⟨_, rfl⟩ | ⟨_, _, rfl⟩ := hi
  all_goals exact ⟨_, rfl⟩

theorem exec_needsInit_of_not_init {s : State} {i : Instr} (hinit : s.init = false) (hi : NeedsInit i) :
    exec i s = .next (s.complete .notInit) := by
  obtain ⟨p, hexec⟩ := exec_of_needsInit hi s
  rw [hexec, whenInit_of_not_init hinit, finish_stop]

/-- Settles O52: the check of R116 comes first and stops the plan, and the completion writes `ERR` and the engine
only. -/
theorem transportNeedsInit : Obligations.TransportNeedsInit := fun s i hinit hi => by
  rw [exec_needsInit_of_not_init hinit hi, State.complete]

end Sys2Proof.Laws
end

section
/-! PROOFS. The round trip of the encoding (30_encoding.md): decoding the encoder's words (O3), and the argument bits that
no field of a format reads (R61, R67). -/

open Sys2Proof Sys2Proof.Machine

namespace Sys2Proof.Laws

/-- Settles O3: the encoder's words are the command's own among zeros, so this is the round trip of its fields. -/
theorem decodeOfEncode : Obligations.DecodeOfEncode := fun i hw =>
  decode_setAll_argWords i 0 Args.zero hw

/-- Settles O2, by evaluation of the decoder on the six words. -/
theorem writtenWordsDecode : Obligations.WrittenWordsDecode := by
  unfold Obligations.WrittenWordsDecode
  decide

/-! ### A field reads only its own bits (R61) -/

theorem and_all (w : Word) : w &&& 0xFFFFFFFF = w := BitVec.and_allOnes

theorem lo16_and (w : Word) : lo16 (w &&& 0x0000FFFF) = lo16 w := by
  simp only [lo16, BitVec.extractLsb'_and]
  exact BitVec.and_allOnes

theorem byteOf_zero_and (w : Word) : byteOf (w &&& 0x000000FF) 0 = byteOf w 0 := by
  simp only [byteOf, BitVec.extractLsb'_and]
  exact BitVec.and_allOnes

theorem flag0_and (w : Word) : flag0 (w &&& 0x00000001) = flag0 w := by simp [flag0]

/-! ### Argument words that agree on the named bits (R62) -/

/-- Two sets of argument words agree on every bit that the command's format names. -/
def AgreeOnNamedBits (i : Instr) (a b : Args) : Prop :=
  ∀ e ∈ namedBits i, Args.get a e.1 &&& e.2 = Args.get b e.1 &&& e.2

section
variable {i : Instr} {a b : Args} (h : AgreeOnNamedBits i a b) (k : Nat)
include h

theorem AgreeOnNamedBits.eq (hk : (k, 0xFFFFFFFF) ∈ namedBits i) : Args.get a k = Args.get b k := by
  simpa only [and_all] using h _ hk

theorem AgreeOnNamedBits.lo16_eq (hk : (k, 0x0000FFFF) ∈ namedBits i) : lo16 (Args.get a k) = lo16 (Args.get b k) := by
  simpa only [lo16_and] using congrArg lo16 (h _ hk)

theorem AgreeOnNamedBits.byteOf_eq (hk : (k, 0x000000FF) ∈ namedBits i) :
    byteOf (Args.get a k) 0 = byteOf (Args.get b k) 0 := by
  simpa only [byteOf_zero_and] using congrArg (byteOf · 0) (h _ hk)

theorem AgreeOnNamedBits.flag0_eq (hk : (k, 0x00000001) ∈ namedBits i) :
    flag0 (Args.get a k) = flag0 (Args.get b k) := by
  simpa only [flag0_and] using congrArg flag0 (h _ hk)

end

/-- The decoder reads no bit but the named ones. The cases follow the formats, by the masks they list. -/
theorem decode_congr_of_agree (i : Instr) (hi : BitVec 24) {a b : Args} (h : AgreeOnNamedBits i a b) :
    decode ⟨hi ++ opcode i, a⟩ = decode ⟨hi ++ opcode i, b⟩ := by
  cases i
  case nop | bufCreatePanel | bufDestroy | polyFill | pDeinit | pSleep | pWake =>
    simp [decode, opcode, opField_append]
  case pack | packA | bufCreate | pDraw =>
    have h0 : a.a0 = b.a0 := h.eq 0 (by simp [namedBits])
    simp [decode, opcode, opField_append, h0]
  case unpack | bufFill | pBright =>
    have h0 : lo16 a.a0 = lo16 b.a0 := h.lo16_eq 0 (by simp [namedBits])
    simp [decode, opcode, opField_append, u16Lo, h0]
  case pixel =>
    have h0 : a.a0 = b.a0 := h.eq 0 (by simp [namedBits])
    have h1 : lo16 a.a1 = lo16 b.a1 := h.lo16_eq 1 (by simp [namedBits])
    simp [decode, opcode, opField_append, h0, h1]
  case hline | circle | circleFill | poly =>
    have h0 : a.a0 = b.a0 := h.eq 0 (by simp [namedBits])
    have h1 : lo16 a.a1 = lo16 b.a1 := h.lo16_eq 1 (by simp [namedBits])
    have h2 : lo16 a.a2 = lo16 b.a2 := h.lo16_eq 2 (by simp [namedBits])
    simp [decode, opcode, opField_append, s16Lo, u16Lo, h0, h1, h2]
  case hlineGrad =>
    have h0 : a.a0 = b.a0 := h.eq 0 (by simp [namedBits])
    have h1 : lo16 a.a1 = lo16 b.a1 := h.lo16_eq 1 (by simp [namedBits])
    have h2 : a.a2 = b.a2 := h.eq 2 (by simp [namedBits])
    simp [decode, opcode, opField_append, s16Lo, h0, h1, h2]
  case line | rect | rectFill =>
    have h0 : a.a0 = b.a0 := h.eq 0 (by simp [namedBits])
    have h1 : a.a1 = b.a1 := h.eq 1 (by simp [namedBits])
    have h2 : lo16 a.a2 = lo16 b.a2 := h.lo16_eq 2 (by simp [namedBits])
    simp [decode, opcode, opField_append, h0, h1, h2]
  case tri | triFill =>
    have h0 : a.a0 = b.a0 := h.eq 0 (by simp [namedBits])
    have h1 : a.a1 = b.a1 := h.eq 1 (by simp [namedBits])
    have h2 : a.a2 = b.a2 := h.eq 2 (by simp [namedBits])
    have h3 : lo16 a.a3 = lo16 b.a3 := h.lo16_eq 3 (by simp [namedBits])
    simp [decode, opcode, opField_append, h0, h1, h2, h3]
  case triGrad =>
    have h0 : a.a0 = b.a0 := h.eq 0 (by simp [namedBits])
    have h1 : a.a1 = b.a1 := h.eq 1 (by simp [namedBits])
    have h2 : a.a2 = b.a2 := h.eq 2 (by simp [namedBits])
    have h3 : a.a3 = b.a3 := h.eq 3 (by simp [namedBits])
    have h4 : lo16 a.a4 = lo16 b.a4 := h.lo16_eq 4 (by simp [namedBits])
    simp [decode, opcode, opField_append, h0, h1, h2, h3, h4]
  case char =>
    have h0 : a.a0 = b.a0 := h.eq 0 (by simp [namedBits])
    have h1 : byteOf a.a1 0 = byteOf b.a1 0 := h.byteOf_eq 1 (by simp [namedBits])
    have h2 : a.a2 = b.a2 := h.eq 2 (by simp [namedBits])
    simp [decode, opcode, opField_append, u8At, h0, h1, h2]
  case text =>
    have h0 : a.a0 = b.a0 := h.eq 0 (by simp [namedBits])
    have h1 : a.a1 = b.a1 := h.eq 1 (by simp [namedBits])
    have h2 : a.a2 = b.a2 := h.eq 2 (by simp [namedBits])
    simp [decode, opcode, opField_append, h0, h1, h2]
  case textWidth =>
    have h1 : a.a1 = b.a1 := h.eq 1 (by simp [namedBits])
    simp [decode, opcode, opField_append, h1]
  case pInit =>
    have h0 : flag0 a.a0 = flag0 b.a0 := h.flag0_eq 0 (by simp [namedBits])
    have h1 : lo16 a.a1 = lo16 b.a1 := h.lo16_eq 1 (by simp [namedBits])
    simp [decode, opcode, opField_append, u16Lo, h0, h1]
  case pOrient =>
    have h0 : flag0 a.a0 = flag0 b.a0 := h.flag0_eq 0 (by simp [namedBits])
    simp [decode, opcode, opField_append, h0]
  case pBrightPct =>
    have h0 : byteOf a.a0 0 = byteOf b.a0 0 := h.byteOf_eq 0 (by simp [namedBits])
    simp [decode, opcode, opField_append, u8At, h0]

/-- Settles O5: the words agree on the named bits with the command's own, which decode to it. -/
theorem decodeIgnoresUnnamedArgBits : Obligations.DecodeIgnoresUnnamedArgBits := fun i hi a hw hagree =>
  calc decode ⟨hi ++ opcode i, a⟩
    _ = decode ⟨hi ++ opcode i, (encode i).args⟩ := decode_congr_of_agree i hi hagree
    _ = .ok i := decode_setAll_argWords i hi Args.zero hw

end Sys2Proof.Laws
end

section
/-! PROOFS. What a command answers (Dispatch, Engine): every command either drives a plan of the panel transport or takes
effect at once, in one of a few ways. What a step can do follows (R19, R52, R127). -/

open Sys2Proof Sys2Proof.Machine

namespace Sys2Proof.Laws

/-! ### The answers of a command that is not of the transport -/

/-- What a command that takes effect in its completing step can leave (R127, R128). -/
inductive AtOnce (s : State) : State → Prop
  | code (e : Err) : AtOnce s (s.complete e)
  | result (v : Word) : AtOnce s (s.completeRes0 v)
  | drawn (ps : List Pixel) : AtOnce s ((s.plot ps).complete .ok)
  | drawnResult (ps : List Pixel) (v : Word) : AtOnce s ((s.plot ps).completeRes0 v)
  | drawnResults (ps : List Pixel) (v0 v1 : Word) : AtOnce s ((s.plot ps).completeRes01 v0 v1)
  | filled (c : Color) (hlive : s.bufValid = true) :
      AtOnce s (State.complete { s with mem := Mem.fill s.mem (s.bufW.toNat * s.bufH.toNat) c } .ok)
  | created (w h : Nat) (hfits : w * h ≤ s.params.maxCells) :
      AtOnce s
        { s with
          mem := s.mem.filter (fun e => e.1 < pbufBase), pbDraw := s.pbDraw + 1,
          bufW := BitVec.ofNat 16 w, bufH := BitVec.ofNat 16 h, bufValid := true, err := .ok, engine := .idle }
  | destroyed : AtOnce s (State.complete { s with bufValid := false, bufW := 0, bufH := 0 } .ok)

/-- The answer is a state that a command leaves at once. -/
def AnswersAtOnce (s : State) (r : Result) : Prop := ∃ t, r = .next t ∧ AtOnce s t

theorem answersAtOnce_complete (s : State) (e : Err) : AnswersAtOnce s (.next (s.complete e)) := ⟨_, rfl, .code e⟩

theorem answersAtOnce_draw (s : State) (ps : List Pixel) : AnswersAtOnce s (s.draw ps) := by
  cases hv : s.bufValid with
  | true => exact ⟨_, State.draw_live hv ps, .drawn ps⟩
  | false => exact ⟨_, State.draw_noBuf hv ps, .code _⟩

theorem answersAtOnce_createBuffer (s : State) (w h : Nat) : AnswersAtOnce s (.next (s.createBuffer w h)) := by
  obtain ⟨_, heq⟩ | ⟨_, _, heq⟩ | ⟨_, hfits, heq⟩ := s.createBuffer_cases w h
  · rw [heq]; exact answersAtOnce_complete s _
  · rw [heq]; exact answersAtOnce_complete s _
  · rw [heq]; exact ⟨_, rfl, .created w h hfits⟩

theorem answersAtOnce_bufDestroy (s : State) : AnswersAtOnce s (exec .bufDestroy s) := by
  cases hv : s.bufValid with
  | true => exact ⟨_, exec_bufDestroy_live hv, .destroyed⟩
  | false => exact ⟨_, exec_bufDestroy_noBuf hv, .code _⟩

theorem exec_bufFill_noBuf {s : State} (hnone : s.bufValid = false) (c : Color) :
    exec (.bufFill c) s = .next (s.complete .noBuf) := by
  simp [exec, execBufFill, hnone]

theorem exec_bufFill_live {s : State} (hlive : s.bufValid = true) (c : Color) :
    exec (.bufFill c) s =
      .next (State.complete { s with mem := Mem.fill s.mem (s.bufW.toNat * s.bufH.toNat) c } .ok) := by
  simp [exec, execBufFill, hlive]

theorem answersAtOnce_bufFill (s : State) (c : Color) : AnswersAtOnce s (exec (.bufFill c) s) := by
  cases hv : s.bufValid with
  | true => exact ⟨_, exec_bufFill_live hv c, .filled c hv⟩
  | false => exact ⟨_, exec_bufFill_noBuf hv c, .code _⟩

theorem answersAtOnce_poly (s : State) (xs ys n : Nat) (c : Color) : AnswersAtOnce s (execPoly xs ys n c s) := by
  unfold execPoly
  split_ifs
  · exact answersAtOnce_complete s _
  · exact answersAtOnce_complete s _
  · exact answersAtOnce_draw s _
  · exact answersAtOnce_complete s _

theorem answersAtOnce_char (s : State) (x y : Int) (code : Nat) (fg bg : Color) :
    AnswersAtOnce s (execChar x y code fg bg s) := by
  unfold execChar
  split_ifs
  · exact ⟨_, rfl, .drawnResult _ _⟩
  · exact answersAtOnce_complete s _

theorem answersAtOnce_text (s : State) (x y : Int) (off len : Nat) (fg bg : Color) :
    AnswersAtOnce s (execText x y off len fg bg s) := by
  unfold execText
  split_ifs
  · exact answersAtOnce_complete s _
  · exact ⟨_, rfl, .drawnResults _ _ _⟩
  · exact answersAtOnce_complete s _

theorem answersAtOnce_textWidth (s : State) (off len : Nat) : AnswersAtOnce s (execTextWidth off len s) := by
  unfold execTextWidth
  split_ifs
  · exact ⟨_, rfl, .result _⟩
  · exact answersAtOnce_complete s _

/-! ### Every command -/

/-- A transport command is its plan, run to its end. -/
theorem exec_of_planOf {i : Instr} {s : State} {p : Plan} (hp : planOf i s = some p) :
    exec i s = .next (p.finish s) := by
  cases i
  case pInit | pDeinit | pOrient | pSleep | pWake | pBright | pBrightPct | pDraw =>
    obtain rfl := Option.some.inj hp
    rfl
  all_goals simp [planOf] at hp

/-- Every other command takes effect at once. -/
theorem exec_atOnce {i : Instr} {s : State} (hp : planOf i s = none) : AnswersAtOnce s (exec i s) := by
  cases i
  case pInit | pDeinit | pOrient | pSleep | pWake | pBright | pBrightPct | pDraw => simp [planOf] at hp
  case nop | polyFill => exact answersAtOnce_complete s _
  case pack | packA | unpack => exact ⟨_, rfl, .result _⟩
  case bufCreate | bufCreatePanel => exact answersAtOnce_createBuffer s _ _
  case bufDestroy => exact answersAtOnce_bufDestroy s
  case bufFill c => exact answersAtOnce_bufFill s c
  case pixel | hline | hlineGrad | line | rect | rectFill | tri | triFill | triGrad | circle | circleFill =>
    exact answersAtOnce_draw s _
  case poly xs ys n c => exact answersAtOnce_poly s xs ys n c
  case char x y code fg bg => exact answersAtOnce_char s x y code fg bg
  case text x y off len fg bg => exact answersAtOnce_text s x y off len fg bg
  case textWidth off len => exact answersAtOnce_textWidth s off len

/-- What a command leaves, from its acceptance on: at once, or as the end of a sequence it drives. -/
theorem exec_cases (i : Instr) (s : State) :
    ∃ t, exec i s = .next t ∧
      (planOf i s = none ∧ AtOnce s t ∨
        (∃ e, planOf i s = some (.stop e) ∧ t = s.complete e) ∨
        ∃ isInit acts, planOf i s = some (.drive isInit acts) ∧ t = runActs isInit acts s) := by
  cases hp : planOf i s with
  | none =>
    obtain ⟨t, hexec, ht⟩ := exec_atOnce hp
    exact ⟨t, hexec, .inl ⟨rfl, ht⟩⟩
  | some p =>
    refine ⟨_, exec_of_planOf hp, .inr ?_⟩
    cases p with
    | stop e => exact .inl ⟨e, rfl, rfl⟩
    | drive isInit acts => exact .inr ⟨isInit, acts, rfl, rfl⟩

/-- A command that takes effect at once is over. -/
theorem AtOnce.engine {s t : State} (h : AtOnce s t) : t.engine = .idle := by cases h <;> rfl

theorem not_busy_of_idle {s : State} (h : s.engine = .idle) : s.busy = false := by simp [State.busy, h]

theorem busy_of_stalled {s : State} (h : s.engine = .stalled) : s.busy = true := by simp [State.busy, h]

/-! ### Every step answers a next state (R52, R133) -/

theorem engineRun_next (s : State) : ∃ t, engineRun s = .next t := by
  unfold engineRun
  split
  · exact ⟨_, rfl⟩
  · exact ⟨_, rfl⟩
  · split
    · next i _ =>
      obtain ⟨t, hexec, _⟩ := exec_cases i s
      exact ⟨t, hexec⟩
    · exact ⟨_, rfl⟩
  · exact ⟨_, rfl⟩

/-- What one action of the engine can do: nothing when nothing runs, the completion of a bad opcode, the start of a
command, or a line of a transport command (R24, R130). -/
inductive Tick (s : State) : State → Prop
  | rest (he : s.engine = .idle ∨ s.engine = .stalled) : Tick s s
  | badOp {op : Byte} (he : s.engine = .accepted op) {e : DecodeError} (hd : decode (s.latch op) = .error e) :
      Tick s (s.complete .badOp)
  | start {op : Byte} (he : s.engine = .accepted op) {i : Instr} (hd : decode (s.latch op) = .ok i)
      {isInit : Bool} {acts : List Act} (hp : planOf i s = some (.drive isInit acts)) :
      Tick s { s with engine := .driving isInit acts }
  | stop {op : Byte} (he : s.engine = .accepted op) {i : Instr} (hd : decode (s.latch op) = .ok i)
      {e : Err} (hp : planOf i s = some (.stop e)) : Tick s (s.complete e)
  | atOnce {op : Byte} (he : s.engine = .accepted op) {i : Instr} (hd : decode (s.latch op) = .ok i)
      (hp : planOf i s = none) {t : State} (hexec : exec i s = .next t) (ht : AtOnce s t) : Tick s t
  | finish {isInit : Bool} (he : s.engine = .driving isInit []) : Tick s (s.complete .ok)
  | done {isInit : Bool} {a : Act} {acts : List Act} (he : s.engine = .driving isInit (a :: acts))
      {t : State} (ha : Act.run s a = .done t) : Tick s { t with engine := .driving isInit acts }
  | failed {isInit : Bool} {a : Act} {acts : List Act} (he : s.engine = .driving isInit (a :: acts))
      {t : State} (ha : Act.run s a = .failed t) : Tick s (t.busFail isInit)
  | stalled {isInit : Bool} {a : Act} {acts : List Act} (he : s.engine = .driving isInit (a :: acts))
      {t : State} (ha : Act.run s a = .stalled t) : Tick s t.busStall

theorem engineTick_cases (s : State) : ∃ t, engineTick s = .next t ∧ Tick s t := by
  cases he : s.engine with
  | idle => exact ⟨s, by simp only [engineTick, he], .rest (.inl he)⟩
  | stalled => exact ⟨s, by simp only [engineTick, he], .rest (.inr he)⟩
  | accepted op =>
    cases hd : decode (s.latch op) with
    | error e => exact ⟨_, by simp only [engineTick, he, hd], .badOp he hd⟩
    | ok i =>
      obtain ⟨t, hexec, ⟨hp, ht⟩ | ⟨e, hp, rfl⟩ | ⟨isInit, acts, hp, rfl⟩⟩ := exec_cases i s
      · exact ⟨t, by simp only [engineTick, he, hd, hp, hexec], .atOnce he hd hp hexec ht⟩
      · exact ⟨_, by simp only [engineTick, he, hd, hp], .stop he hd hp⟩
      · exact ⟨_, by simp only [engineTick, he, hd, hp], .start he hd hp⟩
  | driving isInit acts =>
    cases acts with
    | nil => exact ⟨_, by simp only [engineTick, he], .finish he⟩
    | cons a acts =>
      cases ha : Act.run s a with
      | done t => exact ⟨_, by simp only [engineTick, he, ha], .done he ha⟩
      | failed t => exact ⟨_, by simp only [engineTick, he, ha], .failed he ha⟩
      | stalled t => exact ⟨_, by simp only [engineTick, he, ha], .stalled he ha⟩

theorem engineTick_next (s : State) : ∃ t, engineTick s = .next t :=
  have ⟨t, h, _⟩ := engineTick_cases s
  ⟨t, h⟩

theorem tick_of_engineTick {s t : State} (h : engineTick s = .next t) : Tick s t := by
  obtain ⟨u, hu, htick⟩ := engineTick_cases s
  obtain rfl := Host.Outcome.next.inj (h.symm.trans hu)
  exact htick

/-- Settles O8: the engine always answers a next state, and nothing else in a step can stop. -/
theorem everyStepAnswersANextState : Obligations.EveryStepAnswersANextState := fun s => by
  unfold step advance
  split
  · exact engineRun_next s
  · exact ⟨_, rfl⟩
  · next rest _ =>
    obtain ⟨_, h⟩ | ⟨_, h⟩ := pollRound_cases s rest
    · exact ⟨_, h⟩
    · rw [h]; exact engineTick_next _
  · exact engineTick_next _
  · exact engineRun_next _
  · exact ⟨_, rfl⟩

end Sys2Proof.Laws
end

section
/-! PROOFS. The invariant of PPRT's state (R9, R42, R76, R77, R108, R109, R114, R115): it holds at reset, and the engine, the
host port and the platform's reset keep it. -/

open Sys2Proof Sys2Proof.Machine

namespace Sys2Proof.Laws

/-! ### The invariant without the engine's part -/

/-- The invariant, but for what is still to run: a sequence of actions keeps it line by line, whatever the engine is. -/
def Settled (s : State) : Prop := State.Inv { s with engine := .idle }

theorem inv_iff (s : State) : s.Inv ↔ Settled s ∧ s.engineOk = true :=
  ⟨fun h => ⟨{ h with engine := rfl }, h.engine⟩, fun ⟨h, he⟩ => { h with engine := he }⟩

theorem inv_complete {s : State} (h : Settled s) (e : Err) : (s.complete e).Inv := { h with }

/-! ### Memory (R42, R77) -/

/-- An offset of PRAM or of the live buffer is one that memory may list. -/
theorem storageOffset_of_cell {p : Params} {n off : Nat} (hfits : n ≤ p.maxCells) (hlo : pbufBase ≤ off)
    (hhi : off < pbufBase + 2 * n) : storageOffset p off = true := by
  have : off < pbufBase + 2 * p.maxCells := by omega
  simp [storageOffset, hlo, this]

theorem mem_writeCell {m : Mem} {i : Nat} {c : Color} {e : Host.Cell} (h : e ∈ Mem.writeCell m i c) :
    e ∈ m ∨ e.1 = pbufBase + 2 * i ∨ e.1 = pbufBase + 2 * i + 1 := by
  obtain rfl | h := Mem.mem_write h
  · exact .inr (.inr rfl)
  · obtain rfl | h := Mem.mem_write h
    · exact .inr (.inl rfl)
    · exact .inl h

/-- Drawing lists no offset but those listed and those of the buffer's cells. -/
theorem mem_foldl_putPixel {w h : Nat} {ps : List Pixel} {m : Mem} {e : Host.Cell}
    (he : e ∈ ps.foldl (Mem.putPixel w h) m) : e ∈ m ∨ pbufBase ≤ e.1 ∧ e.1 < pbufBase + 2 * (w * h) := by
  induction ps generalizing m with
  | nil => exact .inl he
  | cons p ps ih =>
    obtain hm | hcell := ih he
    · rw [Mem.putPixel_eq] at hm
      split at hm
      · next hp =>
        have hlt := cell_lt hp
        obtain hm | hoff | hoff := mem_writeCell hm
        · exact .inl hm
        · exact .inr (by omega)
        · exact .inr (by omega)
      · exact .inl hm
    · exact .inr hcell

theorem mem_fill {m : Mem} {n : Nat} {c : Color} {e : Host.Cell} (he : e ∈ Mem.fill m n c) :
    e ∈ m ∨ pbufBase ≤ e.1 ∧ e.1 < pbufBase + 2 * n := by
  simp only [Mem.fill, List.mem_append, List.mem_filter] at he
  obtain (⟨hm, _⟩ | hcell) | ⟨hm, _⟩ := he
  · exact .inl hm
  · have := fillEntries_mem hcell
    exact .inr (by omega)
  · exact .inl hm

theorem mem_writeBytes {bs : List Byte} {m : Mem} {off : Nat} {e : Host.Cell} (he : e ∈ Mem.writeBytes m off bs) :
    e ∈ m ∨ off ≤ e.1 ∧ e.1 < off + bs.length := by
  induction bs generalizing m off with
  | nil => exact .inl he
  | cons b bs ih =>
    rw [List.length_cons]
    obtain hm | hoff := ih he
    · obtain rfl | hm := Mem.mem_write hm
      · exact .inr (by simp only; omega)
      · exact .inl hm
    · exact .inr (by omega)

/-- New contents keep the invariant when they are canonical and list nothing but what was listed and live cells. -/
theorem settled_mem {s : State} (h : Settled s) {m : Mem} (hwf : Mem.wf m = true)
    (hin : ∀ e ∈ m, e ∈ s.mem ∨ storageOffset s.params e.1 = true) : Settled { s with mem := m } :=
  { h with
    memCanonical := hwf
    memInStorage := fun e he => (hin e he).elim (h.memInStorage e) id }

theorem settled_plot {s : State} (h : Settled s) (ps : List Pixel) : Settled (s.plot ps) :=
  settled_mem h (Mem.wf_foldl_putPixel _ _ ps s.mem h.memCanonical)
    fun _ he => (mem_foldl_putPixel he).imp_right fun ⟨hlo, hhi⟩ => storageOffset_of_cell h.bufFits hlo hhi

theorem settled_fill {s : State} (h : Settled s) (c : Color) :
    Settled { s with mem := Mem.fill s.mem (s.bufW.toNat * s.bufH.toNat) c } :=
  settled_mem h (Mem.wf_fill s.mem _ c h.memCanonical)
    fun _ he => (mem_fill he).imp_right fun ⟨hlo, hhi⟩ => storageOffset_of_cell h.bufFits hlo hhi

/-- A buffer's registers hold the size asked for, or less. -/
theorem registers_fit {w h n : Nat} (hfits : w * h ≤ n) :
    (BitVec.ofNat 16 w).toNat * (BitVec.ofNat 16 h).toNat ≤ n := by
  simp only [BitVec.toNat_ofNat]
  exact (Nat.mul_le_mul (Nat.mod_le _ _) (Nat.mod_le _ _)).trans hfits

/-- A command that takes effect at once keeps the invariant. -/
theorem AtOnce.inv {s t : State} (ht : AtOnce s t) (h : Settled s) : t.Inv := by
  cases ht with
  | code e => exact inv_complete h e
  | result v => exact { h with }
  | drawn ps => exact inv_complete (settled_plot h ps) .ok
  | drawnResult ps v => exact { settled_plot h ps with }
  | drawnResults ps v0 v1 => exact { settled_plot h ps with }
  | filled c => exact inv_complete (settled_fill h c) .ok
  | created w h' hfits =>
    exact
      { h with
        memCanonical := Mem.wf_filter _ _ h.memCanonical
        memInStorage := fun e he => h.memInStorage e (List.mem_of_mem_filter he)
        bufFits := registers_fit hfits
        noBufNoSize := by simp }
  | destroyed =>
    exact
      { h with
        bufFits := by simp
        noBufNoSize := fun _ => ⟨rfl, rfl⟩ }

/-! ### One action of a transport command (R108, R109, R114) -/

/-- An event that is neither a switch nor of the backlight keeps the rules, if it is no word of the other width. -/
theorem settled_emit {s : State} (h : Settled s) {e : WireEvent} (hwidth : ∀ w, e ≠ .width w)
    (hbl : ∀ en level, e ≠ .bl en level) (hw8 : ∀ b, e = .w8 b → s.bus16 = false)
    (hw16 : ∀ v, e = .w16 v → s.bus16 = true) : Settled (s.emit e) := by
  have ⟨hcs, hdc, hrst⟩ := h.pinLevels
  cases e
  case width w => exact absurd rfl (hwidth w)
  case bl en level => exact absurd rfl (hbl en level)
  case w8 b =>
    have hnarrow : wideAfter s.wire = false := h.busWidth.trans (hw8 b rfl)
    have hok : wordsMatchWidth s.wire = true := h.contract
    exact { h with contract := by simp [State.emit, wordsMatchWidth, hnarrow, hok] }
  case w16 v =>
    have hwide : wideAfter s.wire = true := h.busWidth.trans (hw16 v rfl)
    have hok : wordsMatchWidth s.wire = true := h.contract
    exact { h with contract := by simp [State.emit, wordsMatchWidth, hwide, hok] }
  case cs v => exact { h with pinLevels := ⟨rfl, hdc, hrst⟩ }
  case dc v => exact { h with pinLevels := ⟨hcs, rfl, hrst⟩ }
  case rst v => exact { h with pinLevels := ⟨hcs, hdc, rfl⟩ }
  case wait ms => exact { h with }

theorem settled_switchWidth {s : State} (h : Settled s) (wide : Bool) : Settled (s.switchWidth wide) :=
  { h with busWidth := rfl }

theorem settled_backlight {s : State} (h : Settled s) {en : Bool} {level : Half} (hlevel : en = true → level ≠ 0) :
    Settled { s.emit (.bl en level) with blEn := en, blLevel := level } :=
  { h with
    backlight := rfl
    backlightOn := hlevel }

/-- A word that fails or stalls is not appended (R130). -/
theorem settled_shiftWord {s : State} (h : Settled s) {e : WireEvent} (hemit : Settled (s.emit e)) :
    Settled (s.shiftWord e).state ∧ ∀ t, s.shiftWord e = .done t → t.bus16 = s.bus16 := by
  obtain ⟨_, heq⟩ | ⟨_, heq⟩ | ⟨_, heq⟩ := s.shiftWord_cases e
  · rw [heq]
    exact ⟨{ hemit with }, fun t ht => ActResult.done.inj ht ▸ rfl⟩
  · rw [heq]
    exact ⟨{ h with }, by simp⟩
  · rw [heq]
    exact ⟨{ h with }, by simp⟩

/-- An action that keeps the contract of R108 keeps the invariant, and leaves the bus at the width it says. -/
theorem settled_actRun {s : State} (h : Settled s) {a : Act} {w : Bool} (hw : widthThrough s.bus16 a = some w)
    (hbl : actsKeepBacklight [a] = true) :
    Settled (Act.run s a).state ∧ ∀ t, Act.run s a = .done t → t.bus16 = w := by
  cases a
  case word8 b =>
    obtain ⟨hnarrow, rfl⟩ : s.bus16 = false ∧ s.bus16 = w := by simpa [widthThrough] using hw
    exact settled_shiftWord h (settled_emit h (by simp) (by simp) (fun _ _ => hnarrow) (by simp))
  case word16 v =>
    obtain ⟨hwide, rfl⟩ : s.bus16 = true ∧ s.bus16 = w := by simpa [widthThrough] using hw
    exact settled_shiftWord h (settled_emit h (by simp) (by simp) (by simp) (fun _ _ => hwide))
  case ensure8 =>
    obtain rfl := Option.some.inj hw
    cases hb : s.bus16
    · rw [show Act.run s .ensure8 = .done s by simp [Act.run, hb]]
      exact ⟨h, fun t ht => ActResult.done.inj ht ▸ hb⟩
    · rw [show Act.run s .ensure8 = .done (s.switchWidth false) by simp [Act.run, hb]]
      exact ⟨settled_switchWidth h false, fun t ht => ActResult.done.inj ht ▸ rfl⟩
  case ensure16 =>
    obtain rfl := Option.some.inj hw
    cases hb : s.bus16
    · rw [show Act.run s .ensure16 = .done (s.switchWidth true) by simp [Act.run, hb]]
      exact ⟨settled_switchWidth h true, fun t ht => ActResult.done.inj ht ▸ rfl⟩
    · rw [show Act.run s .ensure16 = .done s by simp [Act.run, hb]]
      exact ⟨h, fun t ht => ActResult.done.inj ht ▸ hb⟩
  case backlight en level =>
    obtain rfl := Option.some.inj hw
    refine ⟨settled_backlight h ?_, fun t ht => ActResult.done.inj ht ▸ rfl⟩
    rintro rfl
    simpa [actsKeepBacklight] using hbl
  case cs | dc | rst | wait =>
    obtain rfl := Option.some.inj hw
    exact ⟨settled_emit h (by simp) (by simp) (by simp) (by simp), fun t ht => ActResult.done.inj ht ▸ rfl⟩
  case orient p =>
    obtain rfl := Option.some.inj hw
    exact ⟨{ h with panelSize := ⟨rfl, rfl⟩ }, fun t ht => ActResult.done.inj ht ▸ rfl⟩
  case phase | sckDiv | initDone | deinitDone | asleep =>
    obtain rfl := Option.some.inj hw
    exact ⟨{ h with }, fun t ht => ActResult.done.inj ht ▸ rfl⟩

/-- A failed word completes the command with `CS(1)` (R130). -/
theorem inv_busFail {s : State} (h : Settled s) (isInit : Bool) : (s.busFail isInit).Inv :=
  have ⟨_, hdc, hrst⟩ := h.pinLevels
  { h with pinLevels := ⟨rfl, hdc, hrst⟩ }

theorem inv_busStall {s : State} (h : Settled s) : s.busStall.Inv := { h with }

/-! ### A sequence of actions -/

/-- The sequence keeps to the rules of the wire, from a bus of this width (R108, R114). -/
def ActsOk (wide : Bool) (acts : List Act) : Prop := actsMatchWidth wide acts = true ∧ actsKeepBacklight acts = true

theorem actsOk_cons_iff (wide : Bool) (a : Act) (acts : List Act) :
    ActsOk wide (a :: acts) ↔
      ∃ w, widthThrough wide a = some w ∧ actsKeepBacklight [a] = true ∧ ActsOk w acts := by
  simp only [ActsOk, actsMatchWidth, actsKeepBacklight, List.all_cons, List.all_nil, Bool.and_true, Bool.and_eq_true]
  cases widthThrough wide a with
  | none => simp
  | some w => simp only [Option.some.injEq, exists_eq_left']; tauto

theorem engineOk_driving (s : State) (isInit : Bool) (acts : List Act) :
    State.engineOk { s with engine := .driving isInit acts } = true ↔ ActsOk s.bus16 acts := by
  simp [State.engineOk, ActsOk]

/-- A sequence that keeps to the rules ends in a state with the invariant, however it ends (R127, R130). -/
theorem inv_runActs {isInit : Bool} {acts : List Act} {s : State} (h : Settled s) (hok : ActsOk s.bus16 acts) :
    (runActs isInit acts s).Inv := by
  induction acts generalizing s with
  | nil => exact inv_complete h .ok
  | cons a acts ih =>
    obtain ⟨w, hw, hbl, hrest⟩ := (actsOk_cons_iff _ _ _).1 hok
    obtain ⟨hstate, hwidth⟩ := settled_actRun h hw hbl
    simp only [runActs]
    cases ha : Act.run s a with
    | done t =>
      rw [ha] at hstate
      exact ih hstate (by rwa [hwidth t ha])
    | failed t =>
      rw [ha] at hstate
      exact inv_busFail hstate isInit
    | stalled t =>
      rw [ha] at hstate
      exact inv_busStall hstate

/-! ### The sequences of the commands (R111 to R124) -/

theorem actsOk_words8 (ps : List Byte) (rest : List Act) :
    ActsOk false (ps.map Act.word8 ++ rest) ↔ ActsOk false rest := by
  induction ps with
  | nil => rfl
  | cons b ps ih => simp [actsOk_cons_iff, widthThrough, actsKeepBacklight, ih]

theorem actsOk_words16 (hs : List Half) (rest : List Act) :
    ActsOk true (hs.map Act.word16 ++ rest) ↔ ActsOk true rest := by
  induction hs with
  | nil => rfl
  | cons v hs ih => simp [actsOk_cons_iff, widthThrough, actsKeepBacklight, ih]

/-- A panel command narrows the bus first and leaves it narrow (R113). -/
theorem actsOk_panelCmd (wide : Bool) (op : Byte) (ps : List Byte) (rest : List Act) :
    ActsOk wide (panelCmd op ps ++ rest) ↔ ActsOk false rest := by
  simp [panelCmd, actsOk_cons_iff, widthThrough, actsKeepBacklight, actsOk_words8]

theorem actsOk_nil (wide : Bool) : ActsOk wide [] := ⟨rfl, rfl⟩

theorem actsOk_panelCmd_last (wide : Bool) (op : Byte) (ps : List Byte) : ActsOk wide (panelCmd op ps) := by
  simpa [actsOk_nil] using (actsOk_panelCmd wide op ps []).2 (actsOk_nil false)

theorem actsOk_initActs (wide : Bool) (p : Params) (hbl : p.blMax ≠ 0) (portrait : Bool) (d : Half) :
    ActsOk wide (initActs p portrait d) := by
  simpa [initActs, orientStep, List.append_assoc, actsOk_cons_iff, widthThrough, actsOk_panelCmd, actsKeepBacklight,
    actsOk_nil] using hbl

theorem actsOk_deinitActs (wide : Bool) (p : Params) (asleep : Bool) : ActsOk wide (deinitActs p asleep) := by
  cases asleep <;>
    simp [deinitActs, sleepInActs, List.append_assoc, actsOk_cons_iff, widthThrough, actsOk_panelCmd, actsKeepBacklight,
      actsOk_nil]

theorem actsOk_orientStep (wide : Bool) (p : Params) (portrait : Bool) : ActsOk wide (orientStep p portrait) := by
  simp [orientStep, actsOk_cons_iff, widthThrough, actsKeepBacklight, actsOk_panelCmd_last]

theorem actsOk_sleepActs (wide : Bool) (p : Params) (level : Half) : ActsOk wide (sleepActs p level) := by
  simp [sleepActs, sleepInActs, List.append_assoc, actsOk_cons_iff, widthThrough, actsOk_panelCmd, actsKeepBacklight,
    actsOk_nil]

theorem actsOk_wakeActs (wide : Bool) (p : Params) (level : Half) : ActsOk wide (wakeActs p level) := by
  simp [wakeActs, List.append_assoc, actsOk_cons_iff, widthThrough, actsOk_panelCmd, actsKeepBacklight, actsOk_nil]

theorem actsOk_brightActs (wide asleep : Bool) (v : Half) : ActsOk wide (brightActs asleep v) := by
  simp only [brightActs, actsOk_cons_iff, widthThrough, actsKeepBacklight, actsOk_nil]
  by_cases hv : v = 0#16 <;> simp [hv]

theorem actsOk_drawActs (wide : Bool) (p : Params) (x y w h : Nat) (cells : List Half) :
    ActsOk wide (drawActs p x y w h cells) := by
  simp [drawActs, List.append_assoc, actsOk_cons_iff, widthThrough, actsOk_panelCmd, actsKeepBacklight, actsOk_words16,
    actsOk_nil]

theorem drive_of_whenInit {s : State} {p : Plan} {isInit : Bool} {acts : List Act}
    (h : s.whenInit p = .drive isInit acts) : p = .drive isInit acts := by
  unfold State.whenInit at h
  split at h
  · exact h
  · simp at h

/-- Every sequence that a command drives keeps to the rules of the wire, from either width. -/
theorem actsOk_of_planOf {i : Instr} {s : State} (h : s.params.Ok) {isInit : Bool} {acts : List Act}
    (hp : planOf i s = some (.drive isInit acts)) : ActsOk s.bus16 acts := by
  cases i
  case pInit portrait d =>
    simp only [planOf, planInit, Option.some.injEq] at hp
    split at hp
    · simp at hp
    · obtain ⟨-, rfl⟩ := Plan.drive.inj hp; exact actsOk_initActs _ _ h.blMax _ _
  case pDeinit =>
    simp only [planOf, planDeinit, Option.some.injEq] at hp
    split at hp
    · obtain ⟨-, rfl⟩ := Plan.drive.inj hp; exact actsOk_deinitActs _ _ _
    · simp at hp
  case pOrient portrait =>
    obtain ⟨-, rfl⟩ := Plan.drive.inj (drive_of_whenInit (Option.some.inj hp))
    exact actsOk_orientStep _ _ _
  case pSleep =>
    have hq := drive_of_whenInit (Option.some.inj hp)
    split at hq
    · simp at hq
    · obtain ⟨-, rfl⟩ := Plan.drive.inj hq; exact actsOk_sleepActs _ _ _
  case pWake =>
    have hq := drive_of_whenInit (Option.some.inj hp)
    split at hq
    · obtain ⟨-, rfl⟩ := Plan.drive.inj hq; exact actsOk_wakeActs _ _ _
    · simp at hq
  case pBright | pBrightPct =>
    obtain ⟨-, rfl⟩ := Plan.drive.inj (drive_of_whenInit (Option.some.inj hp))
    exact actsOk_brightActs _ _ _
  case pDraw x y =>
    have hq := drive_of_whenInit (Option.some.inj hp)
    split at hq
    · simp at hq
    · split at hq
      · simp at hq
      · obtain ⟨-, rfl⟩ := Plan.drive.inj hq; exact actsOk_drawActs _ _ _ _ _ _ _
  all_goals simp [planOf] at hp

/-! ### The engine -/

theorem inv_exec {i : Instr} {s t : State} (h : Settled s) (hexec : exec i s = .next t) : t.Inv := by
  obtain ⟨u, hu, hcases⟩ := exec_cases i s
  obtain rfl := Host.Outcome.next.inj (hexec.symm.trans hu)
  obtain ⟨_, hat⟩ | ⟨e, _, rfl⟩ | ⟨isInit, acts, hp, rfl⟩ := hcases
  · exact hat.inv h
  · exact inv_complete h e
  · exact inv_runActs h (actsOk_of_planOf h.params hp)

theorem inv_engineRun {s t : State} (h : s.Inv) (hrun : engineRun s = .next t) : t.Inv := by
  obtain ⟨hset, hok⟩ := (inv_iff s).1 h
  unfold engineRun at hrun
  split at hrun
  · obtain rfl := Host.Outcome.next.inj hrun; exact h
  · obtain rfl := Host.Outcome.next.inj hrun; exact h
  · split at hrun
    · exact inv_exec hset hrun
    · obtain rfl := Host.Outcome.next.inj hrun; exact inv_complete hset _
  · next isInit acts he =>
    obtain rfl := Host.Outcome.next.inj hrun
    refine inv_runActs hset ((engineOk_driving s isInit acts).1 ?_)
    rw [← he]
    exact hok

theorem Tick.inv {s t : State} (htick : Tick s t) (h : s.Inv) : t.Inv := by
  obtain ⟨hset, hok⟩ := (inv_iff s).1 h
  have actsOk_of_driving {isInit : Bool} {a : Act} {acts : List Act} (he : s.engine = .driving isInit (a :: acts)) :
      ∃ w, widthThrough s.bus16 a = some w ∧ actsKeepBacklight [a] = true ∧ ActsOk w acts := by
    rw [← actsOk_cons_iff, ← engineOk_driving s isInit, ← he]
    exact hok
  cases htick with
  | rest => exact h
  | badOp | stop | finish => exact inv_complete hset _
  | start he hd hp => exact (inv_iff _).2 ⟨hset, (engineOk_driving s _ _).2 (actsOk_of_planOf h.params hp)⟩
  | atOnce he hd hp hexec ht => exact ht.inv hset
  | done he ha =>
    obtain ⟨w, hw, hbl, hrest⟩ := actsOk_of_driving he
    obtain ⟨hstate, hwidth⟩ := settled_actRun hset hw hbl
    rw [ha] at hstate
    exact (inv_iff _).2 ⟨hstate, (engineOk_driving _ _ _).2 (by rwa [hwidth _ ha])⟩
  | failed he ha =>
    obtain ⟨w, hw, hbl, -⟩ := actsOk_of_driving he
    have hstate := (settled_actRun hset hw hbl).1
    rw [ha] at hstate
    exact inv_busFail hstate _
  | stalled he ha =>
    obtain ⟨w, hw, hbl, -⟩ := actsOk_of_driving he
    have hstate := (settled_actRun hset hw hbl).1
    rw [ha] at hstate
    exact inv_busStall hstate

/-! ### The host port (R41 to R53) -/

theorem valueBytes_length (w : Width) (v : Word) : (valueBytes w v).length = w.bytes := by cases w <;> rfl

/-- A register write changes no field that the invariant speaks of but the engine, which it can only start. -/
theorem inv_writeReg {s t : State} {off : Nat} {v : Word} (h : s.Inv) (hw : s.writeReg off v = some t) : t.Inv := by
  unfold State.writeReg at hw
  split at hw
  case h_2 =>
    obtain rfl := Option.some.inj hw
    unfold State.writeCmd
    split
    · exact { h with }
    · exact { h with engine := rfl }
  case h_20 => simp at hw
  all_goals
    obtain rfl := Option.some.inj hw
    exact { h with }

theorem region_pram_iff (p : Params) (off : Nat) :
    region p off = .pram ↔ pramBase ≤ off ∧ off < pramBase + p.pramBytes := by
  unfold region
  split_ifs <;> simp <;> omega

/-- PBUF lies above PRAM, so its offsets are those from its base on (R42). -/
theorem region_pbuf {p : Params} {off : Nat} (h : region p off = .pbuf) :
    pbufBase ≤ off ∧ off < pbufBase + 2 * p.maxCells := by
  unfold region at h
  split_ifs at h
  omega

/-- A taken write of the window stays inside PRAM or the live buffer (R42, R48). -/
theorem inv_writeMem {s : State} (h : s.Inv) {w : Width} {off : Nat} {v : Word}
    (hin : region s.params off = .pram ∧ s.inPramWindow w off = true ∨
      region s.params off = .pbuf ∧ s.inLive w off = true) : (s.writeMem w off v).Inv := by
  refine
    { h with
      memCanonical := Mem.wf_writeBytes _ _ _ h.memCanonical
      memInStorage := fun e he => ?_ }
  obtain hm | ⟨hlo, hhi⟩ := mem_writeBytes he
  · exact h.memInStorage e hm
  · rw [valueBytes_length] at hhi
    obtain ⟨hreg, hwin⟩ | ⟨hreg, hlive⟩ := hin
    · have ⟨hbase, _⟩ := (region_pram_iff _ _).1 hreg
      have hend : off + w.bytes ≤ pramBase + s.params.pramBytes := of_decide_eq_true hwin
      have hin : pramBase ≤ e.1 ∧ e.1 < pramBase + s.params.pramBytes := by omega
      simp [storageOffset, hin]
    · have ⟨hbase, _⟩ := region_pbuf hreg
      have hend : off + w.bytes ≤ pbufBase + 2 * (s.bufW.toNat * s.bufH.toNat) := by
        simp only [State.inLive, Bool.and_eq_true, decide_eq_true_eq] at hlive
        exact hlive.2
      exact storageOffset_of_cell h.bufFits (by omega) (by omega)

theorem inv_hostWrite {s : State} (h : s.Inv) (w : Width) (off : Nat) (v : Word) : (s.hostWrite w off v).Inv := by
  obtain ⟨_, hreg⟩ | ⟨_, _, heq, hin⟩ | heq | heq := s.hostWrite_cases w off v
  · exact inv_writeReg h hreg
  · rw [heq]; exact inv_writeMem h hin
  · rw [heq]; exact { h with }
  · rw [heq]; exact { h with }

theorem inv_hostRead {s : State} (h : s.Inv) (w : Width) (off : Nat) : (s.hostRead w off).2.Inv := by
  obtain heq | heq | heq := s.hostRead_cases w off
  · rw [heq]; exact h
  · rw [heq]; exact { h with }
  · rw [heq]; exact { h with }

theorem inv_access {s : State} (h : s.Inv) (a : Access) : (s.access a).Inv := by
  cases a with
  | read w addr =>
    obtain ⟨_, heq⟩ | ⟨off, _, heq⟩ := s.access_read_cases w addr
    · rw [heq]; exact h
    · rw [heq]; exact { inv_hostRead h w off with }
  | write w addr v =>
    obtain ⟨_, heq⟩ | ⟨off, _, heq⟩ := s.access_write_cases w addr v
    · rw [heq]; exact h
    · rw [heq]; exact inv_hostWrite h w off v

/-! ### Reset (R40, R141) -/

/-- The reset values keep to the rules, for any parameters within their bounds. -/
theorem inv_reset_with {p : Params} (hp : p.Ok) :
    State.Inv { State.reset with params := p, panelW := p.portraitW, panelH := p.portraitH } where
  params := hp
  memCanonical := rfl
  memInStorage := by simp [State.reset]
  bufFits := Nat.zero_le _
  noBufNoSize := fun _ => ⟨rfl, rfl⟩
  panelSize := ⟨rfl, rfl⟩
  busWidth := rfl
  contract := rfl
  pinLevels := ⟨rfl, rfl, rfl⟩
  backlight := rfl
  backlightOn := by simp [State.reset]
  engine := rfl

theorem inv_powerOn {s : State} (h : s.params.Ok) : s.powerOn.Inv := { inv_reset_with h with }

/-- The parameters at reset keep the bounds of R9. -/
theorem config_params_ok : Config.params.Ok where
  maxCells := by decide
  pramBytes := by decide
  tRstLow := by decide
  tRstHigh := by decide
  tSwreset := by decide
  tSlpout := by decide
  blMax := by decide
  blPeriod := Nat.le_add_left 1 _

/-- Settles O9: the reset values with the parameters of the PPRT at reset. -/
theorem resetMeetsTheInvariant : Obligations.ResetMeetsTheInvariant := inv_reset_with config_params_ok

/-! ### Every step -/

/-- Settles O10, by the entry of the schedule: each of the engine, the host port and the reset keeps the invariant, which
does not look at the schedule or at the host's log. -/
theorem everyStepKeepsTheInvariant : Obligations.EveryStepKeepsTheInvariant := fun s t h hstep => by
  have keeps_inputs (rest : List Input) : State.Inv { s with inputs := rest } := { h with }
  have keeps_poll (log : List Word) : State.Inv { s with readLog := log } := { h with }
  unfold step advance at hstep
  split at hstep
  · exact inv_engineRun h hstep
  · obtain rfl := Host.Outcome.next.inj hstep; exact inv_access (keeps_inputs _) _
  · next rest _ =>
    obtain ⟨_, heq⟩ | ⟨_, heq⟩ := pollRound_cases s rest
    · obtain rfl := Host.Outcome.next.inj (hstep.symm.trans heq); exact { h with }
    · exact (tick_of_engineTick (heq.symm.trans hstep)).inv (keeps_poll _)
  · exact (tick_of_engineTick hstep).inv (keeps_inputs _)
  · exact inv_engineRun (keeps_inputs _) hstep
  · obtain rfl := Host.Outcome.next.inj hstep; exact inv_powerOn h.params

end Sys2Proof.Laws
end

section
/-! PROOFS. The step (R19, R24): which of the engine, the host and the reset acts; what a step leaves after a reset or in a
stall. -/

open Sys2Proof Sys2Proof.Machine

namespace Sys2Proof.Laws

/-! ### The schedule's head decides the step -/

theorem step_of_empty {s : State} (h : s.inputs = []) : step s = engineRun s := by simp only [step, advance, h]

theorem step_of_access {s : State} {a : Access} {rest : List Input} (h : s.inputs = .access a :: rest) :
    step s = .next (State.access { s with inputs := rest } a) := by simp only [step, advance, h]

theorem step_of_poll {s : State} {rest : List Input} (h : s.inputs = .poll :: rest) : step s = pollRound s rest := by
  simp only [step, advance, h]

theorem step_of_tick {s : State} {rest : List Input} (h : s.inputs = .tick :: rest) :
    step s = engineTick { s with inputs := rest } := by simp only [step, advance, h]

theorem step_of_run {s : State} {rest : List Input} (h : s.inputs = .run :: rest) :
    step s = engineRun { s with inputs := rest } := by simp only [step, advance, h]

theorem step_of_reset {s : State} {rest : List Input} (h : s.inputs = .reset :: rest) :
    step s = .next (State.powerOn { s with inputs := rest }) := by simp only [step, advance, h]

/-! ### The running command -/

theorem engineRun_accepted {s : State} {op : Byte} {i : Instr} (he : s.engine = .accepted op)
    (hd : decode (s.latch op) = .ok i) : engineRun s = exec i s := by simp only [engineRun, he, hd]

theorem engineRun_badOp {s : State} {op : Byte} {e : DecodeError} (he : s.engine = .accepted op)
    (hd : decode (s.latch op) = .error e) : engineRun s = .next (s.complete .badOp) := by
  simp only [engineRun, he, hd]

/-- Settles O1: the schedule's head hands the step to the engine, which does what its decoder reads. -/
theorem stepRunsTheAcceptedCommand : Obligations.StepRunsTheAcceptedCommand := fun s op he => by
  refine ⟨fun i hd => ⟨fun hin => ?_, fun rest hin => ?_⟩, fun e hd => ⟨fun hin => ?_, fun rest hin => ?_⟩⟩
  · rw [step_of_empty hin, engineRun_accepted he hd]
  · exact (step_of_run hin).trans (engineRun_accepted (s := { s with inputs := rest }) he hd)
  · rw [step_of_empty hin, engineRun_badOp he hd, State.complete]
  · exact (step_of_run hin).trans (engineRun_badOp (s := { s with inputs := rest }) he hd)

/-! ### Reset (R40, R141) -/

/-- Settles O11, by evaluation of the registers' views at reset. -/
theorem resetRegisterValues : Obligations.ResetRegisterValues := by
  unfold Obligations.ResetRegisterValues
  decide

/-- Settles O12: the reset entry is a power-on, whose fields are those listed. -/
theorem resetInputResetsEverything : Obligations.ResetInputResetsEverything := fun s rest hin => by
  rw [step_of_reset hin, State.powerOn]

/-! ### A stall (R130) -/

theorem engineRun_stalled {s : State} (he : s.engine = .stalled) : engineRun s = .next s := by
  simp only [engineRun, he]

theorem engineTick_stalled {s : State} (he : s.engine = .stalled) : engineTick s = .next s := by
  simp only [engineTick, he]

/-- While the engine is busy no host write reaches it: a CMD write is dropped (R58). -/
theorem engine_writeReg_of_busy {s t : State} {off : Nat} {v : Word} (hbusy : s.busy = true)
    (hw : s.writeReg off v = some t) : t.engine = s.engine := by
  unfold State.writeReg at hw
  split at hw
  case h_2 =>
    obtain rfl := Option.some.inj hw
    simp only [State.writeCmd, hbusy, if_true]
  case h_20 => simp at hw
  all_goals
    obtain rfl := Option.some.inj hw
    rfl

theorem engine_hostWrite_of_busy {s : State} (hbusy : s.busy = true) (w : Width) (off : Nat) (v : Word) :
    (s.hostWrite w off v).engine = s.engine := by
  obtain ⟨_, hreg⟩ | ⟨_, _, heq, _⟩ | heq | heq := s.hostWrite_cases w off v
  · exact engine_writeReg_of_busy hbusy hreg
  all_goals rw [heq]; rfl

theorem engine_hostRead (s : State) (w : Width) (off : Nat) : (s.hostRead w off).2.engine = s.engine := by
  obtain heq | heq | heq := s.hostRead_cases w off
  all_goals rw [heq]
  all_goals rfl

theorem engine_access_of_busy {s : State} (hbusy : s.busy = true) (a : Access) : (s.access a).engine = s.engine := by
  cases a with
  | read w addr =>
    obtain ⟨_, heq⟩ | ⟨off, _, heq⟩ := s.access_read_cases w addr
    · rw [heq]
    · rw [heq]; exact engine_hostRead s w off
  | write w addr v =>
    obtain ⟨_, heq⟩ | ⟨off, _, heq⟩ := s.access_write_cases w addr v
    · rw [heq]
    · rw [heq]; exact engine_hostWrite_of_busy hbusy w off v

/-- Every entry of the schedule but reset leaves a stalled engine as it is. -/
theorem engine_step_of_stalled {s t : State} (he : s.engine = .stalled) (hreset : ∀ rest, s.inputs ≠ .reset :: rest)
    (hstep : step s = .next t) : t.engine = .stalled := by
  cases hin : s.inputs with
  | nil =>
    rw [step_of_empty hin, engineRun_stalled he] at hstep
    exact Host.Outcome.next.inj hstep ▸ he
  | cons entry rest =>
    cases entry with
    | access a =>
      rw [step_of_access hin] at hstep
      obtain rfl := Host.Outcome.next.inj hstep
      exact (engine_access_of_busy (s := { s with inputs := rest }) (busy_of_stalled he) a).trans he
    | poll =>
      rw [step_of_poll hin, pollRound, if_pos (busy_of_stalled he), engineTick_stalled (by exact he)] at hstep
      exact Host.Outcome.next.inj hstep ▸ he
    | tick =>
      rw [step_of_tick hin, engineTick_stalled (by exact he)] at hstep
      exact Host.Outcome.next.inj hstep ▸ he
    | run =>
      rw [step_of_run hin, engineRun_stalled (by exact he)] at hstep
      exact Host.Outcome.next.inj hstep ▸ he
    | reset => exact absurd hin (hreset rest)

/-- Settles O13: no entry but reset moves a stalled engine, which is busy. -/
theorem onlyResetEndsAStall : Obligations.OnlyResetEndsAStall := fun _ _ he hreset hstep =>
  have ht := engine_step_of_stalled he hreset hstep
  ⟨ht, busy_of_stalled ht⟩

end Sys2Proof.Laws
end

section
/-! PROOFS. What a running command lets the host see (R54, R126 to R130): nothing of its results before it completes, and
nothing but the code when it fails off the bus. -/

open Sys2Proof Sys2Proof.Machine

namespace Sys2Proof.Laws

/-! ### STATUS.ERR while a sequence runs -/

theorem actRun_err (s : State) (a : Act) : (Act.run s a).state.err = s.err := by
  have shiftWord_err (e : WireEvent) : (s.shiftWord e).state.err = s.err := by
    obtain ⟨_, heq⟩ | ⟨_, heq⟩ | ⟨_, heq⟩ := s.shiftWord_cases e
    all_goals rw [heq]; rfl
  cases a
  case word8 | word16 => exact shiftWord_err _
  case ensure8 | ensure16 => simp only [Act.run, ActResult.state]; split <;> rfl
  all_goals rfl

/-- What the host may see of a command's results: RES, BUF_INFO, the code, BUF_VALID and memory. -/
structure HidesResults (s t : State) : Prop where
  outside : OutsideTransport s t
  err : t.err = s.err

theorem HidesResults.refl (s : State) : HidesResults s s := ⟨.refl s, rfl⟩

theorem hidesResults_actRun (s : State) (a : Act) : HidesResults s (Act.run s a).state :=
  ⟨Act.run_outside s a, actRun_err s a⟩

/-- The engine's own state is no result. -/
theorem HidesResults.engine {s t : State} (h : HidesResults s t) (e : Engine) :
    HidesResults s { t with engine := e } := ⟨{ h.outside with }, h.err⟩

theorem HidesResults.busStall {s t : State} (h : HidesResults s t) : HidesResults s t.busStall :=
  ⟨{ h.outside with }, h.err⟩

/-- An action that does not complete the command hides its results: those that complete one leave the engine idle. -/
theorem Tick.hidesResults {s t : State} (htick : Tick s t) (hbusy : t.busy = true) : HidesResults s t := by
  have not_completed {u : State} (hu : u.busy = true) (he : u.engine = .idle) : HidesResults s u := by
    simp [not_busy_of_idle he] at hu
  cases htick with
  | rest => exact .refl s
  | badOp | stop | finish | failed => exact not_completed hbusy rfl
  | atOnce he hd hp hexec ht => exact not_completed hbusy ht.engine
  | start => exact (HidesResults.refl s).engine _
  | @done _ a _ he _ ha =>
    have h := hidesResults_actRun s a
    rw [ha] at h
    exact h.engine _
  | @stalled _ a _ he _ ha =>
    have h := hidesResults_actRun s a
    rw [ha] at h
    exact h.busStall

/-- Settles O14: an action that leaves BUSY at 1 is the start of a sequence, a line of one, or a stall. -/
theorem runningCommandHidesItsResults : Obligations.RunningCommandHidesItsResults := fun s t htick hbusy => by
  obtain ⟨hout, herr⟩ := (tick_of_engineTick htick).hidesResults hbusy
  refine ⟨hout.res0, hout.res1, ?_, herr, hout.bufValid, State.byteAt_congr hout.mem hout.pramDraw hout.pbDraw⟩
  rw [State.bufInfo, hout.bufW, hout.bufH, ← State.bufInfo]

/-! ### How a sequence ends -/

/-- A sequence completes with `E_OK`, completes with `E_BUS`, or stalls (R127, R130). -/
theorem runActs_ends (isInit : Bool) (acts : List Act) (s : State) :
    (runActs isInit acts s).engine = .idle ∧
        ((runActs isInit acts s).err = .ok ∨ (runActs isInit acts s).err = .bus) ∨
      (runActs isInit acts s).engine = .stalled := by
  induction acts generalizing s with
  | nil => exact .inl ⟨rfl, .inl rfl⟩
  | cons a acts ih =>
    simp only [runActs]
    cases Act.run s a with
    | done t => exact ih t
    | failed t => exact .inl ⟨rfl, .inr rfl⟩
    | stalled t => exact .inr rfl

/-- A command that fails at once writes the code and BUSY only: every other way to end completes with `E_OK`. -/
theorem AtOnce.eq_complete_of_failed {s t : State} (h : AtOnce s t) (hfail : t.err ≠ .ok) : t = s.complete t.err := by
  cases h with
  | code e => rfl
  | result | drawn | drawnResult | drawnResults | filled | created | destroyed => exact absurd rfl hfail

/-- Settles O18, by how a command ends: at once with a code, or as a sequence that fails on the bus only. -/
theorem failedCommandChangesNothing : Obligations.FailedCommandChangesNothing := fun i s t hexec hidle hfail => by
  have of_complete {e : Err} (h : t = s.complete e) :
      t.res0 = s.res0 ∧ t.res1 = s.res1 ∧ (t.err ≠ .bus → t = { s with engine := .idle, err := t.err }) := by
    subst h
    exact ⟨rfl, rfl, fun _ => rfl⟩
  obtain ⟨u, hu, hcases⟩ := exec_cases i s
  obtain rfl := Host.Outcome.next.inj (hexec.symm.trans hu)
  obtain ⟨_, hat⟩ | ⟨e, _, heq⟩ | ⟨isInit, acts, _, heq⟩ := hcases
  · exact of_complete (hat.eq_complete_of_failed hfail)
  · exact of_complete heq
  · have hout := runActs_outside isInit acts s
    have hends := runActs_ends isInit acts s
    rw [← heq] at hout hends
    refine ⟨hout.res0, hout.res1, fun hbus => ?_⟩
    obtain ⟨_, hok | herr⟩ | hstall := hends
    · exact absurd hok hfail
    · exact absurd herr hbus
    · rw [hidle] at hstall; simp at hstall

/-! ### The width switches of a command (R112) -/

/-- The trace grows by new events, and MODESW_CNT by their `Width` events. -/
def CountsWidths (s t : State) : Prop :=
  ∃ new, t.wire = new ++ s.wire ∧ t.modeSwCnt = s.modeSwCnt + BitVec.ofNat 32 (widthEvents new)

theorem CountsWidths.of_same {s t : State} (hwire : t.wire = s.wire) (hcnt : t.modeSwCnt = s.modeSwCnt) :
    CountsWidths s t := ⟨[], by simpa using hwire, by simpa [widthEvents] using hcnt⟩

theorem widthEvents_append (xs ys : List WireEvent) : widthEvents (xs ++ ys) = widthEvents xs + widthEvents ys :=
  List.countP_append

theorem CountsWidths.trans {s t u : State} (h : CountsWidths s t) (h' : CountsWidths t u) : CountsWidths s u := by
  obtain ⟨new, hwire, hcnt⟩ := h
  obtain ⟨new', hwire', hcnt'⟩ := h'
  refine ⟨new' ++ new, by rw [hwire', hwire, List.append_assoc], ?_⟩
  rw [hcnt', hcnt, widthEvents_append, Nat.add_comm, BitVec.ofNat_add, BitVec.add_assoc]

/-- One event that is no switch leaves the counter. -/
theorem countsWidths_event {s t : State} {e : WireEvent} (hwire : t.wire = e :: s.wire)
    (hcnt : t.modeSwCnt = s.modeSwCnt) (he : widthEvents [e] = 0) : CountsWidths s t :=
  ⟨[e], hwire, by simpa [he] using hcnt⟩

theorem countsWidths_switchWidth (s : State) (wide : Bool) : CountsWidths s (s.switchWidth wide) :=
  ⟨[.width wide], rfl, rfl⟩

theorem countsWidths_shiftWord (s : State) {e : WireEvent} (he : widthEvents [e] = 0) :
    CountsWidths s (s.shiftWord e).state := by
  obtain ⟨_, heq⟩ | ⟨_, heq⟩ | ⟨_, heq⟩ := s.shiftWord_cases e
  all_goals rw [heq]
  · exact countsWidths_event rfl rfl he
  · exact .of_same rfl rfl
  · exact .of_same rfl rfl

theorem countsWidths_actRun (s : State) (a : Act) : CountsWidths s (Act.run s a).state := by
  cases a
  case ensure8 =>
    simp only [Act.run, ActResult.state]
    split
    · exact countsWidths_switchWidth s false
    · exact .of_same rfl rfl
  case ensure16 =>
    simp only [Act.run, ActResult.state]
    split
    · exact .of_same rfl rfl
    · exact countsWidths_switchWidth s true
  case word8 | word16 => exact countsWidths_shiftWord s rfl
  case backlight | cs | dc | rst | wait => exact countsWidths_event rfl rfl rfl
  case phase | sckDiv | orient | initDone | deinitDone | asleep => exact .of_same rfl rfl

theorem countsWidths_runActs (isInit : Bool) (acts : List Act) (s : State) :
    CountsWidths s (runActs isInit acts s) := by
  induction acts generalizing s with
  | nil => exact .of_same rfl rfl
  | cons a acts ih =>
    have ha := countsWidths_actRun s a
    simp only [runActs]
    cases h : Act.run s a with
    | done t => rw [h] at ha; exact ha.trans (ih t)
    | failed t => rw [h] at ha; exact ha.trans (countsWidths_event (e := .cs true) rfl rfl rfl)
    | stalled t => rw [h] at ha; exact ha.trans (.of_same rfl rfl)

/-- Settles O16: only a sequence touches the trace, and its actions count their switches one by one. -/
theorem modeSwitchCounterCountsWidthEvents : Obligations.ModeSwitchCounterCountsWidthEvents := fun i s t hexec => by
  obtain ⟨u, hu, hcases⟩ := exec_cases i s
  obtain rfl := Host.Outcome.next.inj (hexec.symm.trans hu)
  obtain ⟨_, hat⟩ | ⟨e, _, rfl⟩ | ⟨isInit, acts, _, rfl⟩ := hcases
  · cases hat <;> exact CountsWidths.of_same rfl rfl
  · exact CountsWidths.of_same rfl rfl
  · exact countsWidths_runActs isInit acts s

end Sys2Proof.Laws
end

section
/-! PROOFS. The engine action by action, in one go, and under the host's POLL (R19, R54, R68, R127). The engine looks neither
at the schedule nor at the host's log, so its actions from one state make up one path, whoever lets it act. -/

open Sys2Proof Sys2Proof.Machine

namespace Sys2Proof.Laws

/-! ### The engine does not look at the schedule or the log -/

/-- The state with another schedule and another log of the host's reads. -/
def withHost (s : State) (ins : List Input) (log : List Word) : State := { s with inputs := ins, readLog := log }

/-- The same answer, with another schedule and log in the state. -/
def resultWithHost (ins : List Input) (log : List Word) : Result → Result
  | .next t => .next (withHost t ins log)
  | .fault f => .fault f
  | .refused r => .refused r

def actResultWithHost (ins : List Input) (log : List Word) : ActResult → ActResult
  | .done t => .done (withHost t ins log)
  | .failed t => .failed (withHost t ins log)
  | .stalled t => .stalled (withHost t ins log)

section
variable (s : State) (ins : List Input) (log : List Word)

theorem shiftWord_withHost (e : WireEvent) :
    (withHost s ins log).shiftWord e = actResultWithHost ins log (s.shiftWord e) := by
  simp only [State.shiftWord, State.nextOutcome, withHost]
  cases s.bus.headD .ok <;> rfl

theorem actRun_withHost (a : Act) : Act.run (withHost s ins log) a = actResultWithHost ins log (Act.run s a) := by
  cases a
  case word8 | word16 => exact shiftWord_withHost s ins log _
  case ensure8 | ensure16 => simp only [Act.run, actResultWithHost, apply_ite (withHost · ins log)]; rfl
  all_goals rfl

theorem runActs_withHost (isInit : Bool) (acts : List Act) :
    runActs isInit acts (withHost s ins log) = withHost (runActs isInit acts s) ins log := by
  induction acts generalizing s with
  | nil => rfl
  | cons a acts ih =>
    simp only [runActs, actRun_withHost]
    cases Act.run s a with
    | done t => exact ih t
    | failed t => rfl
    | stalled t => rfl

theorem planOf_withHost (i : Instr) : planOf i (withHost s ins log) = planOf i s := by cases i <;> rfl

theorem finish_withHost (p : Plan) : p.finish (withHost s ins log) = withHost (p.finish s) ins log := by
  cases p with
  | stop e => rfl
  | drive isInit acts => exact runActs_withHost s ins log isInit acts

theorem draw_withHost (ps : List Pixel) : (withHost s ins log).draw ps = resultWithHost ins log (s.draw ps) := by
  rw [State.draw, State.draw, apply_ite (resultWithHost ins log)]
  rfl

theorem createBuffer_withHost (w h : Nat) :
    (withHost s ins log).createBuffer w h = withHost (s.createBuffer w h) ins log := by
  simp only [State.createBuffer, apply_ite (withHost · ins log)]
  rfl

/-- No command reads or writes the schedule or the log. -/
theorem exec_withHost (i : Instr) : exec i (withHost s ins log) = resultWithHost ins log (exec i s) := by
  cases i
  case pInit | pDeinit | pOrient | pSleep | pWake | pBright | pBrightPct | pDraw =>
    exact congrArg Host.Outcome.next (finish_withHost s ins log _)
  case pixel | hline | hlineGrad | line | rect | rectFill | tri | triFill | triGrad | circle | circleFill =>
    exact draw_withHost s ins log _
  case bufCreate | bufCreatePanel => exact congrArg Host.Outcome.next (createBuffer_withHost s ins log _ _)
  case nop | pack | packA | unpack | polyFill => rfl
  case bufDestroy => simp only [exec, execBufDestroy, apply_ite (resultWithHost ins log)]; rfl
  case bufFill => simp only [exec, execBufFill, apply_ite (resultWithHost ins log)]; rfl
  case poly =>
    simp only [exec, execPoly, apply_ite (resultWithHost ins log), ← draw_withHost]
    rfl
  case char => simp only [exec, execChar, apply_ite (resultWithHost ins log)]; rfl
  case text => simp only [exec, execText, apply_ite (resultWithHost ins log)]; rfl
  case textWidth => simp only [exec, execTextWidth, apply_ite (resultWithHost ins log)]; rfl

theorem engineRun_withHost : engineRun (withHost s ins log) = resultWithHost ins log (engineRun s) := by
  cases he : s.engine with
  | idle => simp only [engineRun, withHost, he, resultWithHost]
  | stalled => simp only [engineRun, withHost, he, resultWithHost]
  | driving isInit acts =>
    simp only [engineRun, he, resultWithHost, ← runActs_withHost]
    rw [show (withHost s ins log).engine = .driving isInit acts from he]
  | accepted op =>
    have hl : (withHost s ins log).latch op = s.latch op := rfl
    cases hd : decode (s.latch op) with
    | error e =>
      rw [engineRun_badOp he hd, engineRun_badOp (s := withHost s ins log) he (hl ▸ hd)]
      rfl
    | ok i => rw [engineRun_accepted he hd, engineRun_accepted (s := withHost s ins log) he (hl ▸ hd), exec_withHost]

theorem engineTick_withHost : engineTick (withHost s ins log) = resultWithHost ins log (engineTick s) := by
  have hengine : (withHost s ins log).engine = s.engine := rfl
  have hlatch (op : Byte) : (withHost s ins log).latch op = s.latch op := rfl
  cases he : s.engine with
  | idle | stalled => simp only [engineTick, hengine, he, resultWithHost]
  | accepted op =>
    simp only [engineTick, hengine, hlatch, he]
    cases decode (s.latch op) with
    | error e => rfl
    | ok i =>
      simp only [planOf_withHost]
      cases planOf i s with
      | none => exact exec_withHost s ins log i
      | some p => cases p <;> rfl
  | driving isInit acts =>
    simp only [engineTick, hengine, he]
    cases acts with
    | nil => rfl
    | cons a acts =>
      simp only [actRun_withHost]
      cases Act.run s a <;> rfl

end

/-! ### The path of the engine's actions -/

/-- `n` actions of the engine lead from `s` to `u`, each of them from a busy state. -/
inductive TickPath : Nat → State → State → Prop
  | refl (s : State) : TickPath 0 s s
  | step {n : Nat} {s t u : State} (hbusy : s.busy = true) (htick : engineTick s = .next t) (h : TickPath n t u) :
      TickPath (n + 1) s u

/-- The lines of a sequence, taken one by one, end where the sequence ends. -/
theorem tickPath_driving {isInit : Bool} {acts : List Act} {s : State} (he : s.engine = .driving isInit acts) :
    ∃ n, TickPath n s (runActs isInit acts s) := by
  have hbusy : s.busy = true := by simp [State.busy, he]
  induction acts generalizing s with
  | nil => exact ⟨1, .step hbusy (by simp only [engineTick, he]; rfl) (.refl _)⟩
  | cons a acts ih =>
    simp only [runActs]
    cases ha : Act.run s a with
    | done t =>
      obtain ⟨n, hpath⟩ := ih (s := { t with engine := .driving isInit acts }) rfl rfl
      rw [runActs_engine] at hpath
      exact ⟨n + 1, .step hbusy (by simp only [engineTick, he, ha]) hpath⟩
    | failed t => exact ⟨1, .step hbusy (by simp only [engineTick, he, ha]) (.refl _)⟩
    | stalled t => exact ⟨1, .step hbusy (by simp only [engineTick, he, ha]) (.refl _)⟩

/-- The engine's actions end where it runs to in one go, idle or stalled. -/
theorem tickPath_engineRun (s : State) :
    ∃ n u, engineRun s = .next u ∧ TickPath n s u ∧ (u.engine = .idle ∨ u.engine = .stalled) := by
  cases he : s.engine with
  | idle => exact ⟨0, s, by simp only [engineRun, he], .refl s, .inl he⟩
  | stalled => exact ⟨0, s, by simp only [engineRun, he], .refl s, .inr he⟩
  | driving isInit acts =>
    obtain ⟨n, hpath⟩ := tickPath_driving he
    exact ⟨n, _, by simp only [engineRun, he], hpath, (runActs_ends isInit acts s).imp_left And.left⟩
  | accepted op =>
    have hbusy : s.busy = true := by simp [State.busy, he]
    cases hd : decode (s.latch op) with
    | error e =>
      exact ⟨1, _, engineRun_badOp he hd, .step hbusy (by simp only [engineTick, he, hd]) (.refl _), .inl rfl⟩
    | ok i =>
      rw [engineRun_accepted he hd]
      obtain ⟨t, hexec, ⟨hp, ht⟩ | ⟨e, hp, rfl⟩ | ⟨isInit, acts, hp, rfl⟩⟩ := exec_cases i s
      · exact ⟨1, t, hexec, .step hbusy (by simp only [engineTick, he, hd, hp, hexec]) (.refl _), .inl ht.engine⟩
      · exact ⟨1, _, hexec, .step hbusy (by simp only [engineTick, he, hd, hp]) (.refl _), .inl rfl⟩
      · obtain ⟨n, hpath⟩ := tickPath_driving (s := { s with engine := .driving isInit acts }) rfl
        rw [runActs_engine] at hpath
        exact ⟨n + 1, _, hexec, .step hbusy (by simp only [engineTick, he, hd, hp]) hpath,
          (runActs_ends isInit acts s).imp_left And.left⟩

/-! ### Steps that let the engine act -/

/-- A run of the machine, as the results of this model. -/
def runSteps (n : Nat) (s : State) : Result := Host.Core.run Sys2Proof.core n s

theorem runSteps_zero (s : State) : runSteps 0 s = .next s := rfl

theorem runSteps_succ {s t : State} (n : Nat) (h : step s = .next t) : runSteps (n + 1) s = runSteps n t := by
  have hstep : Sys2Proof.core.step s = .next t := h
  simp only [runSteps, Host.Core.run, hstep]
  rfl

theorem runSteps_add {m : Nat} {s t : State} (n : Nat) (h : runSteps m s = .next t) :
    runSteps (m + n) s = runSteps n t := by
  induction m generalizing s with
  | zero =>
    obtain rfl := Host.Outcome.next.inj h
    rw [Nat.zero_add]
  | succ m ih =>
    obtain ⟨u, hu⟩ := everyStepAnswersANextState s
    rw [runSteps_succ m hu] at h
    rw [Nat.succ_add_eq_add_succ, Nat.add_succ, runSteps_succ _ hu, ih h]

/-- A schedule of as many ticks as the path has actions takes the engine along it. -/
theorem runSteps_ticks {n : Nat} {s u : State} (h : TickPath n s u) (log : List Word) :
    runSteps n (withHost s (List.replicate n .tick) log) = .next (withHost u [] log) := by
  induction h with
  | refl s => rfl
  | @step n s t u hbusy htick _ ih =>
    have hstep : step (withHost s (List.replicate (n + 1) .tick) log) =
        .next (withHost t (List.replicate n .tick) log) := by
      rw [step_of_tick (rest := List.replicate n .tick) rfl]
      exact (engineTick_withHost s _ log).trans (by rw [htick]; rfl)
    rw [runSteps_succ n hstep, ih]

/-! ### The host's POLL (R68) -/

theorem statusWord_busy (s : State) : s.statusWord.getLsbD 0 = s.busy := by
  exact BitVec.getLsbD_append.trans (by simp [bit])

/-- A poll of a busy PPRT lets the engine act and waits on; what it read has BUSY at 1. -/
theorem runSteps_poll {n : Nat} {s u : State} (h : TickPath n s u) (log : List Word) :
    ∃ reads : List Word, runSteps n (withHost s [.poll] log) = .next (withHost u [.poll] (reads ++ log)) ∧
      ∀ v ∈ reads, v.getLsbD 0 = true := by
  induction h generalizing log with
  | refl s => exact ⟨[], rfl, by simp⟩
  | @step n s t u hbusy htick _ ih =>
    have hstep : step (withHost s [.poll] log) = .next (withHost t [.poll] (s.statusWord :: log)) := by
      rw [step_of_poll (rest := []) rfl, pollRound, if_pos (by exact hbusy)]
      exact (engineTick_withHost s [.poll] (s.statusWord :: log)).trans (by rw [htick]; rfl)
    obtain ⟨reads, hrun, hreads⟩ := ih (s.statusWord :: log)
    refine ⟨reads ++ [s.statusWord], ?_, ?_⟩
    · rw [runSteps_succ n hstep, hrun, List.append_assoc, List.singleton_append]
    · simp only [List.mem_append, List.mem_singleton, or_imp, forall_and, forall_eq]
      exact ⟨hreads, (statusWord_busy s).trans hbusy⟩

/-- A poll of an idle PPRT reads STATUS once and is over. -/
theorem step_poll_of_idle {s : State} (he : s.engine = .idle) (log : List Word) :
    step (withHost s [.poll] log) = .next (withHost s [] (s.statusWord :: log)) := by
  rw [step_of_poll (rest := []) rfl, pollRound, if_neg (by simp [withHost, State.busy, he])]
  rfl

/-- Settles O15: one path of actions, along which ticks, the run in one go and the poll all go to its end. -/
theorem ticksEndWhereTheRunEnds : Obligations.TicksEndWhereTheRunEnds := fun s => by
  obtain ⟨n, u, hrun, hpath, hend⟩ := tickPath_engineRun s
  have hrun_host : engineRun (withHost s [] s.readLog) = .next (withHost u [] s.readLog) := by
    rw [engineRun_withHost, hrun]
    rfl
  refine ⟨⟨n, (runSteps_ticks hpath s.readLog).trans hrun_host.symm⟩, fun u' hu' => ?_⟩
  obtain rfl := Host.Outcome.next.inj (hrun_host.symm.trans hu')
  obtain ⟨reads, hpoll, hreads⟩ := runSteps_poll hpath s.readLog
  obtain hidle | hstall := hend
  · have hbusy : u.busy = false := not_busy_of_idle hidle
    refine ⟨n + 1, u.statusWord :: reads, ?_, fun _ => rfl, hreads⟩
    rw [show (withHost u [] s.readLog).busy = false from hbusy]
    exact (runSteps_add 1 hpoll).trans (runSteps_succ 0 (step_poll_of_idle hidle _))
  · have hbusy : u.busy = true := busy_of_stalled hstall
    refine ⟨n, reads, ?_, fun h => ?_, fun v hv => hreads v (List.mem_of_mem_tail hv)⟩
    · rw [show (withHost u [] s.readLog).busy = true from hbusy]
      exact hpoll
    · exact absurd (hbusy.symm.trans h) (by decide)

end Sys2Proof.Laws
end

section
/-! PROOFS. The host port (20_memory.md R41 to R53): taken and refused accesses of PRAM and PBUF, the registers (R36), and the
writes that issue a command (R58, R68). -/

open Sys2Proof Sys2Proof.Machine

namespace Sys2Proof.Laws

/-! ### Words put together from fields, as numbers -/

/-- A field put above another one counts in units of the lower field's range. -/
theorem toNat_append_add {m n : Nat} (x : BitVec m) (y : BitVec n) :
    (x ++ y).toNat = x.toNat * 2 ^ n + y.toNat := by
  rw [BitVec.toNat_append, ← Nat.shiftLeft_add_eq_or_of_lt y.isLt, Nat.shiftLeft_eq]

theorem toNat_bit (b : Bool) : (bit b).toNat = b.toNat := by cases b <;> rfl

theorem eq_ofNat_of_toNat_eq {m n : Nat} {x : BitVec m} (h : x.toNat = n) : x = BitVec.ofNat m n := by
  rw [← h, BitVec.ofNat_toNat, BitVec.setWidth_eq]

theorem toNat_byteOf (v : Word) (k : Nat) : (byteOf v k).toNat = v.toNat / 256 ^ k % 256 := by
  rw [byteOf, BitVec.extractLsb'_toNat, Nat.shiftRight_eq_div_pow, Nat.pow_mul]

/-! ### Taken accesses of PRAM and PBUF (R44, R48, R49) -/

/-- Every byte of the access lies in PRAM, or in the live buffer. -/
def InWindow (s : State) (n off : Nat) : Prop :=
  region s.params off = .pram ∧ off + n ≤ pramBase + s.params.pramBytes ∨
    region s.params off = .pbuf ∧ s.bufValid = true ∧ off + n ≤ pbufBase + 2 * (s.bufW.toNat * s.bufH.toNat)

section
variable {s : State} {w : Width} {off : Nat} (hidle : s.busy = false) (halign : off % w.bytes = 0)
  (hin : InWindow s w.bytes off)
include hidle halign hin

theorem hostRead_window : s.hostRead w off = (s.readMem w off, s) := by
  unfold State.hostRead
  obtain ⟨hreg, hend⟩ | ⟨hreg, hlive, hend⟩ := hin
  · simp [hreg, hidle, aligned, halign, State.inPramWindow, hend]
  · simp [hreg, hidle, aligned, halign, State.inLive, hlive, hend]

theorem hostWrite_window (v : Word) : s.hostWrite w off v = s.writeMem w off v := by
  unfold State.hostWrite
  obtain ⟨hreg, hend⟩ | ⟨hreg, hlive, hend⟩ := hin
  · simp [hreg, hidle, aligned, halign, State.inPramWindow, hend]
  · simp [hreg, hidle, aligned, halign, State.inLive, hlive, hend]

end

theorem byteAt_writeMem_inside (s : State) (w : Width) (off : Nat) (v : Word) {k : Nat} (hk : k < w.bytes) :
    (s.writeMem w off v).byteAt (off + k) = byteOf v k := by
  have hbyte : (valueBytes w v)[k]? = some (byteOf v k) := by
    cases w <;> simp only [Width.bytes] at hk <;> interval_cases k <;> rfl
  have hcovered : off ≤ off + k ∧ off + k < off + (valueBytes w v).length := by rw [valueBytes_length]; omega
  rw [State.byteAt, State.writeMem_mem, Mem.read?_writeBytes, if_pos hcovered, Nat.add_sub_cancel_left, hbyte,
    Option.getD_some]

theorem byteAt_writeMem_outside (s : State) (w : Width) (off : Nat) (v : Word) {a : Nat}
    (ha : a < off ∨ off + w.bytes ≤ a) : (s.writeMem w off v).byteAt a = s.byteAt a := by
  have hnot : ¬ (off ≤ a ∧ a < off + (valueBytes w v).length) := by rw [valueBytes_length]; omega
  simp only [State.byteAt, State.writeMem_mem, Mem.read?_writeBytes, if_neg hnot]
  rfl

theorem readMem_w8 (s : State) (off : Nat) : s.readMem .w8 off = BitVec.ofNat 32 (s.byteAt off).toNat := by
  refine eq_ofNat_of_toNat_eq ?_
  rw [State.readMem, BitVec.toNat_setWidth]
  have := (s.byteAt off).isLt
  omega

theorem readMem_w16 (s : State) (off : Nat) :
    s.readMem .w16 off = BitVec.ofNat 32 ((s.byteAt off).toNat + 256 * (s.byteAt (off + 1)).toNat) := by
  refine eq_ofNat_of_toNat_eq ?_
  rw [State.readMem, BitVec.toNat_setWidth, toNat_append_add]
  have := (s.byteAt off).isLt
  have := (s.byteAt (off + 1)).isLt
  omega

theorem readMem_w32 (s : State) (off : Nat) :
    s.readMem .w32 off = BitVec.ofNat 32 ((s.byteAt off).toNat + 256 * (s.byteAt (off + 1)).toNat
      + 65536 * (s.byteAt (off + 2)).toNat + 16777216 * (s.byteAt (off + 3)).toNat) := by
  refine eq_ofNat_of_toNat_eq ?_
  rw [State.readMem]
  simp only [toNat_append_add]
  omega

/-- What a write stored, a read of its width returns. -/
theorem readMem_writeMem (s : State) (w : Width) (off : Nat) (v : Word) :
    (s.writeMem w off v).readMem w off = BitVec.ofNat 32 (v.toNat % 256 ^ w.bytes) := by
  have hbyte {k : Nat} (hk : k < w.bytes) := byteAt_writeMem_inside s w off v hk
  have hlow : (s.writeMem w off v).byteAt off = byteOf v 0 := hbyte (k := 0) (by cases w <;> decide)
  cases w
  case w8 =>
    rw [readMem_w8, hlow, toNat_byteOf]
    simp [Width.bytes]
  case w16 =>
    rw [readMem_w16, hlow, hbyte (k := 1) (by decide), toNat_byteOf, toNat_byteOf]
    congr 1
    simp only [Width.bytes]
    omega
  case w32 =>
    rw [readMem_w32, hlow, hbyte (k := 1) (by decide), hbyte (k := 2) (by decide),
      hbyte (k := 3) (by decide), toNat_byteOf, toNat_byteOf, toNat_byteOf, toNat_byteOf]
    congr 1
    simp only [Width.bytes]
    omega

/-- Settles O19: a taken write stores its bytes, which a read of that width puts together again. -/
theorem hostReadsBackWhatItWrote : Obligations.HostReadsBackWhatItWrote := fun s w off v hidle halign hin => by
  have hin_after : InWindow (s.writeMem w off v) w.bytes off := hin
  rw [hostWrite_window hidle halign hin, hostRead_window (s := s.writeMem w off v) hidle halign hin_after,
    readMem_writeMem]
  exact ⟨⟨_, rfl⟩, rfl, fun a ha => byteAt_writeMem_outside s w off v ha⟩

/-- Settles O20: a taken read puts the bytes together, lowest offset lowest; a cell and PRAM16 are two such bytes. -/
theorem hostWindowIsLittleEndian : Obligations.HostWindowIsLittleEndian := fun s off hidle => by
  refine ⟨fun ⟨halign, hin⟩ => ?_, fun ⟨halign, hin⟩ => ?_, fun ⟨halign, hin⟩ => ?_, ?_, ?_⟩
  · rw [hostRead_window (w := .w8) hidle halign hin, readMem_w8]
  · rw [hostRead_window (w := .w16) hidle halign hin, readMem_w16]
  · rw [hostRead_window (w := .w32) hidle halign hin, readMem_w32]
  · rintro ⟨halign, hin⟩ i rfl
    rw [hostRead_window (w := .w16) hidle halign hin]
    rfl
  · rintro ⟨halign, hin⟩ a rfl
    rw [hostRead_window (w := .w16) hidle halign hin]
    rfl

/-! ### Refused accesses (R46, R47, R48, R50) -/

theorem regAccessOk_iff (w : Width) (off : Nat) : regAccessOk w off = true ↔ w = .w32 ∧ off % 4 = 0 := by
  rw [regAccessOk, aligned, Bool.and_eq_true, decide_eq_true_eq, decide_eq_true_eq]
  constructor <;> (rintro ⟨rfl, halign⟩; exact ⟨rfl, halign⟩)

/-- Both directions of an access that the port refuses with BADACC. -/
def RefusedBad (s : State) (w : Width) (off : Nat) (v : Word) : Prop :=
  s.hostRead w off = (0, s.refuseBad) ∧ s.hostWrite w off v = s.refuseBad

theorem refusedBad_unmapped {s : State} {off : Nat} (hreg : region s.params off = .unmapped) (w : Width) (v : Word) :
    RefusedBad s w off v := by
  simp [RefusedBad, State.hostRead, State.hostWrite, hreg]

/-- The offsets that read as no register take no write either (R47). -/
theorem writeReg_eq_none {s : State} {off : Nat} (h : s.readReg off = none) (v : Word) : s.writeReg off v = none := by
  unfold State.readReg at h
  split at h
  case h_20 => unfold State.writeReg; split <;> simp_all
  all_goals simp at h

theorem refusedBad_regs {s : State} {w : Width} {off : Nat} (hreg : region s.params off = .regs)
    (hbad : w ≠ .w32 ∨ off % 4 ≠ 0 ∨ s.readReg off = none) (v : Word) : RefusedBad s w off v := by
  by_cases hok : regAccessOk w off = true
  · have ⟨hw, halign⟩ := (regAccessOk_iff w off).1 hok
    have hnone : s.readReg off = none := by tauto
    simp [RefusedBad, State.hostRead, State.hostWrite, hreg, hok, hnone, writeReg_eq_none hnone]
  · simp [RefusedBad, State.hostRead, State.hostWrite, hreg, hok]

/-- With no command running, an access of PRAM or PBUF that is misaligned or not inside is refused. -/
theorem refusedBad_window {s : State} {w : Width} {off : Nat} (hidle : s.busy = false)
    (hreg : region s.params off = .pram ∧ (aligned w off && s.inPramWindow w off) = false ∨
      region s.params off = .pbuf ∧ (aligned w off && s.inLive w off) = false) (v : Word) : RefusedBad s w off v := by
  obtain ⟨hreg, hbad⟩ | ⟨hreg, hbad⟩ := hreg
  all_goals simp only [RefusedBad, State.hostRead, State.hostWrite, hreg, hidle, hbad]
  all_goals exact ⟨rfl, rfl⟩

/-- Settles O21, by the region of the first byte. -/
theorem badAccessIsRefused : Obligations.BadAccessIsRefused := fun s w off v h => by
  obtain hreg | ⟨hreg, hbad⟩ | ⟨hidle, hreg, halign⟩ | ⟨hidle, hreg, hend⟩ | ⟨hidle, hreg, hlive⟩ |
    ⟨hidle, hreg, hend⟩ := h
  · exact refusedBad_unmapped hreg w v
  · exact refusedBad_regs hreg hbad v
  · have hmis : aligned w off = false := decide_eq_false halign
    exact refusedBad_window hidle (hreg.imp (⟨·, by simp [hmis]⟩) (⟨·, by simp [hmis]⟩)) v
  · exact refusedBad_window hidle (.inl ⟨hreg, by simp [State.inPramWindow, hend]⟩) v
  · exact refusedBad_window hidle (.inr ⟨hreg, by simp [State.inLive, hlive]⟩) v
  · exact refusedBad_window hidle (.inr ⟨hreg, by simp [State.inLive, hend]⟩) v

/-- Settles O22: BUSY is looked at before the alignment and the range. -/
theorem busyAccessIsRefused : Obligations.BusyAccessIsRefused := fun s w off v hbusy hreg => by
  obtain hreg | hreg := hreg
  all_goals simp only [State.hostRead, State.hostWrite, hreg, hbusy]
  all_goals exact ⟨rfl, rfl⟩

/-! ### The registers (R36) -/

section
variable {s : State} {off : Nat} (hoff : off < pramBase) (halign : off % 4 = 0)
include hoff halign

theorem hostRead_reg {v : Word} (h : s.readReg off = some v) : s.hostRead .w32 off = (v, s) := by
  have hreg : region s.params off = .regs := if_pos hoff
  simp [State.hostRead, hreg, (regAccessOk_iff .w32 off).2 ⟨rfl, halign⟩, h]

theorem hostWrite_reg {v : Word} {t : State} (h : s.writeReg off v = some t) : s.hostWrite .w32 off v = t := by
  have hreg : region s.params off = .regs := if_pos hoff
  simp [State.hostWrite, hreg, (regAccessOk_iff .w32 off).2 ⟨rfl, halign⟩, h]

end

/-- The argument registers stand one after the other from 0x040 on (R21). -/
theorem readReg_arg (s : State) {k : Nat} (hk : k < 8) : s.readReg (0x040 + 4 * k) = some (Args.get s.args k) := by
  interval_cases k <;> rfl

theorem writeReg_arg (s : State) (v : Word) {k : Nat} (hk : k < 8) :
    s.writeReg (0x040 + 4 * k) v = some { s with args := s.args.set k v } := by
  interval_cases k <;> rfl

theorem hostRead_arg (s : State) {k : Nat} (hk : k < 8) : s.hostRead .w32 (0x040 + 4 * k) = (Args.get s.args k, s) :=
  hostRead_reg (by unfold pramBase; omega) (by omega) (readReg_arg s hk)

theorem hostWrite_arg (s : State) (v : Word) {k : Nat} (hk : k < 8) :
    s.hostWrite .w32 (0x040 + 4 * k) v = { s with args := s.args.set k v } :=
  hostWrite_reg (by unfold pramBase; omega) (by omega) (writeReg_arg s v hk)

theorem get_set (a : Args) (v : Word) {j k : Nat} (hj : j < 8) (hk : k < 8) :
    Args.get (a.set k v) j = if j = k then v else Args.get a j := by
  interval_cases k <;> interval_cases j <;> rfl

theorem hostWrite_cmd (s : State) (v : Word) : s.hostWrite .w32 0x004 v = s.writeCmd v :=
  hostWrite_reg (by decide) (by decide) rfl

theorem writeCmd_of_busy {s : State} (hbusy : s.busy = true) (v : Word) : s.writeCmd v = { s with cmdOvf := true } :=
  if_pos hbusy

theorem writeCmd_of_not_busy {s : State} (hidle : s.busy = false) (v : Word) : s.writeCmd v = s.accept (opField v) := by
  simp [State.writeCmd, hidle]

/-- Settles O23, by whether a command runs. -/
theorem cmdWriteIssuesOrOverflows : Obligations.CmdWriteIssuesOrOverflows := fun s v => by
  rw [hostWrite_cmd]
  refine ⟨fun hbusy => writeCmd_of_busy hbusy v, fun hidle => writeCmd_of_not_busy hidle v, ?_⟩
  cases hb : s.busy with
  | true => rw [writeCmd_of_busy hb]; exact hb
  | false => rw [writeCmd_of_not_busy hb]; rfl

theorem clearSticky_eq (s : State) (v : Word) :
    s.clearSticky v =
      { s with
        cmdOvf := if v.getLsbD 16 then false else s.cmdOvf
        busyAcc := if v.getLsbD 17 then false else s.busyAcc
        badAcc := if v.getLsbD 18 then false else s.badAcc } := by
  have clear (b m : Bool) : (b && !m) = if m then false else b := by cases b <;> cases m <;> rfl
  simp only [State.clearSticky, clear]

/-- Settles O24, register by register. -/
theorem registerWrites : Obligations.RegisterWrites := fun s v => by
  refine ⟨fun k hk => ⟨⟨s.args.set k v, hostWrite_arg s v hk, fun j hj => get_set s.args v hj hk⟩, ?_⟩, ?_, ?_, ?_,
    fun off hoff => ?_⟩
  · rw [hostWrite_arg s v hk, hostRead_arg _ hk]
    exact (get_set s.args v hk hk).trans (if_pos rfl)
  · exact hostWrite_reg (by decide) (by decide) (congrArg some (clearSticky_eq s v))
  · exact hostWrite_reg (by decide) (by decide) rfl
  · exact hostWrite_reg (by decide) (by decide) rfl
  · simp only [List.mem_cons, List.not_mem_nil, or_false] at hoff
    obtain rfl | rfl | rfl | rfl | rfl | rfl | rfl := hoff
    all_goals exact hostWrite_reg (by decide) (by decide) rfl

theorem statusWord_eq (s : State) :
    s.statusWord = BitVec.ofNat 32 (s.busy.toNat + 2 * s.bufValid.toNat + 256 * s.err.code.toNat
      + 65536 * s.cmdOvf.toNat + 131072 * s.busyAcc.toNat + 262144 * s.badAcc.toNat) := by
  refine eq_ofNat_of_toNat_eq ?_
  simp only [State.statusWord, toNat_append_add, toNat_bit, BitVec.ofNat_eq_ofNat, BitVec.toNat_ofNat]
  omega

theorem ctrlWord_eq (s : State) : s.ctrlWord = BitVec.ofNat 32 s.glyphOpaque.toNat := by
  refine eq_ofNat_of_toNat_eq ?_
  simp only [State.ctrlWord, toNat_append_add, toNat_bit, BitVec.ofNat_eq_ofNat, BitVec.toNat_ofNat]
  omega

theorem bufInfo_eq (s : State) : s.bufInfo = BitVec.ofNat 32 (s.bufW.toNat + 65536 * s.bufH.toNat) := by
  refine eq_ofNat_of_toNat_eq ?_
  simp only [State.bufInfo, toNat_append_add]
  omega

theorem panelSize_eq (s : State) : s.panelSize = BitVec.ofNat 32 (s.panelW.toNat + 65536 * s.panelH.toNat) := by
  refine eq_ofNat_of_toNat_eq ?_
  simp only [State.panelSize, toNat_append_add]
  omega

theorem blState_eq (s : State) : s.blState = BitVec.ofNat 32 (s.blLevel.toNat + 65536 * s.blEn.toNat) := by
  refine eq_ofNat_of_toNat_eq ?_
  simp only [State.blState, toNat_append_add, toNat_bit, BitVec.ofNat_eq_ofNat, BitVec.toNat_ofNat]
  omega

theorem toNat_tstate (s : State) :
    s.tstate.toNat = if s.initPhase = .reset then 1 else if s.init = false ∧ s.initPhase = .none then 0
      else if s.asleep = true then 4 else if s.bus16 = true then 3 else 2 := by
  simp only [State.tstate, apply_ite BitVec.toNat]
  rfl

theorem panelState_eq (s : State) :
    s.panelState = BitVec.ofNat 32
      ((if s.initPhase = .reset then 1 else if s.init = false ∧ s.initPhase = .none then 0
        else if s.asleep = true then 4 else if s.bus16 = true then 3 else 2)
      + 256 * s.init.toNat + 512 * s.portrait.toNat + 1024 * s.bus16.toNat + 2048 * s.asleep.toNat) := by
  refine eq_ofNat_of_toNat_eq ?_
  rw [← toNat_tstate]
  simp only [State.panelState, toNat_append_add, toNat_bit, BitVec.ofNat_eq_ofNat, BitVec.toNat_ofNat]
  omega

/-- Settles O25: every register is read as it stands, and its word is the sum of its fields. -/
theorem registerReads : Obligations.RegisterReads := fun s => by
  have read {off : Nat} {v v' : Word} (hoff : off < pramBase) (halign : off % 4 = 0) (h : s.readReg off = some v)
      (hv : v = v') : s.hostRead .w32 off = (v', s) := hv ▸ hostRead_reg hoff halign h
  exact ⟨read (by decide) rfl rfl rfl, read (by decide) rfl rfl rfl, read (by decide) rfl rfl (statusWord_eq s),
    read (by decide) rfl rfl (ctrlWord_eq s), read (by decide) rfl rfl rfl, read (by decide) rfl rfl rfl,
    read (by decide) rfl rfl (bufInfo_eq s), read (by decide) rfl rfl (panelState_eq s),
    read (by decide) rfl rfl (panelSize_eq s), read (by decide) rfl rfl (blState_eq s),
    read (by decide) rfl rfl rfl, fun k hk => hostRead_arg s hk⟩

/-! ### An assembled command line (R68) -/

theorem argWords_index (i : Instr) : ∀ e ∈ argWords i, e.1 < 8 := by
  cases i <;> simp [argWords]

/-- An access at `BASE` and an offset reaches the host port at that offset (R42). -/
theorem access_write_base (s : State) {off : Nat} (hoff : off < 0x80000) (v : Word) :
    s.access (.write .w32 (s.params.base + off) v) = s.hostWrite .w32 off v := by
  obtain ⟨hnone, _⟩ | ⟨off', hsome, heq⟩ := s.access_write_cases .w32 (s.params.base + off) v
  · rw [s.offset?_base hoff] at hnone
    cases hnone
  · rw [s.offset?_base hoff] at hsome
    rw [heq, ← Option.some.inj hsome]

/-- A host-access line of the window is the host port's write at its offset. -/
theorem step_writeLine {s : State} {off : Nat} {v : Word} {rest : List Input} (hoff : off < 0x80000)
    (h : s.inputs = writeLine s.params.base .w32 off v :: rest) :
    step s = .next (State.hostWrite { s with inputs := rest } .w32 off v) :=
  (step_of_access h).trans (congrArg Host.Outcome.next (access_write_base { s with inputs := rest } hoff v))

/-- The ARG writes of a line, one step each, write the words one after the other. -/
theorem runSteps_argWrites (n : Nat) (ws : List (Nat × Word)) (hws : ∀ e ∈ ws, e.1 < 8) (rest : List Input) (s : State)
    (h : s.inputs = ws.map (fun p => writeLine s.params.base .w32 (0x040 + 4 * p.1) p.2) ++ rest) :
    runSteps (ws.length + n) s = runSteps n { s with args := s.args.setAll ws, inputs := rest } := by
  induction ws generalizing s with
  | nil => rw [List.length_nil, Nat.zero_add, ← show s.inputs = rest from h]; rfl
  | cons e ws ih =>
    have he : e.1 < 8 := hws e (by simp)
    have hstep := step_writeLine (s := s) (by omega) h
    rw [hostWrite_arg _ _ he] at hstep
    rw [List.length_cons, Nat.succ_add, runSteps_succ _ hstep, ih (fun e' he' => hws e' (by simp [he'])) _ rfl]
    rfl

/-- The last step of a run answers what the machine's step answers. -/
theorem runSteps_one (s : State) : runSteps 1 s = step s := by
  obtain ⟨t, h⟩ := everyStepAnswersANextState s
  rw [runSteps_succ 0 h, h, runSteps_zero]

/-- Settles O7: the ARG writes give the words, the CMD write accepts the command with them as its snapshot, and the engine
decodes it (O4) and runs it. -/
theorem assembledLineRunsItsCommand : Obligations.AssembledLineRunsItsCommand := fun i s hw he => by
  have hlen : (issue s.params.base i).length + 1 = (argWords i).length + 2 := by simp [issue]
  have hargs := runSteps_argWrites 2 (argWords i) (argWords_index i)
    [writeLine s.params.base .w32 0x004 (cmdWord i), .run] { s with inputs := issue s.params.base i ++ [.run] }
    (by simp [issue])
  have hcmd := step_writeLine (off := 0x004)
    (s := { s with
      args := s.args.setAll (argWords i), inputs := [writeLine s.params.base .w32 0x004 (cmdWord i), .run] })
    (by decide) rfl
  rw [hostWrite_cmd, writeCmd_of_not_busy (by exact not_busy_of_idle he), cmdWord, opField_append] at hcmd
  rw [hlen]
  refine hargs.trans ((runSteps_succ 1 hcmd).trans ?_)
  rw [runSteps_one, step_of_run (rest := []) rfl]
  exact engineRun_accepted rfl (decode_setAll_argWords i 0 s.args hw)

end Sys2Proof.Laws
end

section
/-! PROOFS. The color codec's commands as arithmetic (40_codec.md R70 to R74). -/

open Sys2Proof Sys2Proof.Machine

namespace Sys2Proof.Laws

/-- A packed colour as a number: red counts in units of 2^11, green in units of 2^5. -/
theorem toNat_pack565 (r : BitVec 5) (g : BitVec 6) (b : BitVec 5) :
    (pack565 r g b).toNat = r.toNat * 2048 + g.toNat * 32 + b.toNat := by
  rw [pack565, toNat_append_add, toNat_append_add]
  omega

theorem toNat_red (c : Color) : (red c).toNat = c.toNat / 2048 := by
  rw [red, BitVec.extractLsb'_toNat, Nat.shiftRight_eq_div_pow]
  omega

theorem toNat_green (c : Color) : (green c).toNat = c.toNat / 32 % 64 := by
  rw [green, BitVec.extractLsb'_toNat, Nat.shiftRight_eq_div_pow]

theorem toNat_blue (c : Color) : (blue c).toNat = c.toNat % 32 := by
  rw [blue, BitVec.extractLsb'_toNat, Nat.shiftRight_zero]

/-- A byte per channel fits the packed channels, with its low bits cut off (R70). -/
theorem toNat_pack8 {r g b : Nat} (hr : r < 256) (hg : g < 256) (hb : b < 256) :
    (pack8 r g b).toNat = r / 8 * 2048 + g / 4 * 32 + b / 8 := by
  simp only [pack8, toNat_pack565, BitVec.toNat_ofNat, Nat.shiftRight_eq_div_pow]
  omega

/-- A channel times an alpha that is not 255 keeps within a byte after the division by 256 (R73). -/
theorem premultiplied_lt {x a : Nat} (hx : x < 256) (ha : a < 256) : x * a / 256 < 256 := by
  have : x * a < 256 * 256 := Nat.mul_lt_mul'' hx ha
  omega

theorem toNat_packAlpha {r g b a : Nat} (hr : r < 256) (hg : g < 256) (hb : b < 256) (ha : a < 256) :
    (packAlpha r g b a).toNat =
      if a = 255 then r / 8 * 2048 + g / 4 * 32 + b / 8
      else if a = 0 then 0
      else r * a / 256 / 8 * 2048 + g * a / 256 / 4 * 32 + b * a / 256 / 8 := by
  have byte (x : Nat) : (x * a) >>> 8 = x * a / 256 := Nat.shiftRight_eq_div_pow (x * a) 8
  simp only [packAlpha, byte]
  split_ifs
  · exact toNat_pack8 hr hg hb
  · rfl
  · exact toNat_pack8 (premultiplied_lt hr ha) (premultiplied_lt hg ha) (premultiplied_lt hb ha)

/-- A colour in RES0 is its number. -/
theorem setWidth_color {c : Color} {n : Nat} (h : c.toNat = n) : c.setWidth 32 = BitVec.ofNat 32 n := by
  refine eq_ofNat_of_toNat_eq ?_
  have := c.isLt
  rw [BitVec.toNat_setWidth, h]
  omega

theorem unpackWord_eq (c : Color) :
    unpackWord c = BitVec.ofNat 32 (c.toNat / 2048 + c.toNat / 32 % 64 * 256 + c.toNat % 32 * 65536) := by
  refine eq_ofNat_of_toNat_eq ?_
  have := c.isLt
  simp only [unpackWord, toNat_append_add, BitVec.toNat_setWidth, toNat_red, toNat_green, toNat_blue,
    BitVec.ofNat_eq_ofNat, BitVec.toNat_ofNat]
  omega

theorem exec_pack (r g b a : Nat) (s : State) :
    exec (.pack r g b a) s = .next (s.completeRes0 ((pack8 r g b).setWidth 32)) := rfl

theorem exec_packA (r g b a : Nat) (s : State) :
    exec (.packA r g b a) s = .next (s.completeRes0 ((packAlpha r g b a).setWidth 32)) := rfl

theorem exec_unpack (c : Color) (s : State) : exec (.unpack c) s = .next (s.completeRes0 (unpackWord c)) := rfl

/-- Settles O27: the packed word as a number; the meaning does not name the alpha lane. -/
theorem packTruncatesEachChannel : Obligations.PackTruncatesEachChannel := fun r g b a s hr hg hb => by
  rw [exec_pack, setWidth_color (toNat_pack8 hr hg hb), State.completeRes0]

/-- Settles O28, by the three cases of alpha. -/
theorem packAlphaPremultiplies : Obligations.PackAlphaPremultiplies := fun r g b a s hr hg hb ha => by
  rw [exec_packA, setWidth_color (toNat_packAlpha hr hg hb ha), State.completeRes0]

/-- Settles O29: the lanes as a number. -/
theorem unpackGivesTheChannels : Obligations.UnpackGivesTheChannels := fun c s => by
  rw [exec_unpack, unpackWord_eq, State.completeRes0]

end Sys2Proof.Laws
end

section
/-! PROOFS. Creation and filling of the pixel buffer (41_buffer.md R77, R78, R80). -/

open Sys2Proof Sys2Proof.Machine

namespace Sys2Proof.Laws

/-- The two creations are one meaning, with the size of the command or of the panel (R77, R78). -/
theorem exec_creation {s : State} {i : Instr} {w h : Nat}
    (hi : i = .bufCreate w h ∧ w < 65536 ∧ h < 65536 ∨ i = .bufCreatePanel ∧ w = s.panelW.toNat ∧ h = s.panelH.toNat) :
    exec i s = .next (s.createBuffer w h) := by
  obtain ⟨rfl, _⟩ | ⟨rfl, rfl, rfl⟩ := hi
  all_goals rfl

/-- A new draw of the pixel buffer's values leaves the offsets below it (R77). -/
theorem byteAt_redraw_below {s : State} {off d : Nat} (hoff : off < pbufBase) :
    State.byteAt { s with mem := s.mem.filter (fun e => e.1 < pbufBase), pbDraw := d } off = s.byteAt off := by
  simp only [State.byteAt, State.unlisted, Mem.read?_filter (fun b => decide (b < pbufBase)), hoff, decide_true, if_true]

/-- Settles O30, by the three outcomes of a creation. -/
theorem bufferCreation : Obligations.BufferCreation := fun s i w h hi => by
  rw [exec_creation hi]
  obtain ⟨hlive, heq⟩ | ⟨hnone, hbig, heq⟩ | ⟨hnone, hfits, heq⟩ := s.createBuffer_cases w h
  · refine ⟨fun _ => by rw [heq, State.complete], fun hn => ?_, fun hn => ?_⟩ <;> simp [hlive] at hn
  · refine ⟨fun hl => ?_, fun _ _ => by rw [heq, State.complete], fun _ hfits => ?_⟩
    · simp [hnone] at hl
    · omega
  · refine ⟨fun hl => ?_, fun _ hbig => ?_, fun _ _ => ⟨_, _, by rw [heq], fun off hoff => byteAt_redraw_below hoff⟩⟩
    · simp [hnone] at hl
    · omega

/-- Cells of the buffer, in row-major order (R76). -/
theorem cellIndex_lt {x y w h : Nat} (hx : x < w) (hy : y < h) : y * w + x < w * h := by
  calc y * w + x < y * w + w := by omega
    _ = (y + 1) * w := by ring
    _ ≤ h * w := Nat.mul_le_mul_right w hy
    _ = w * h := Nat.mul_comm h w

theorem cellAt_fill (s : State) {n i : Nat} (c : Color) (hi : i < n) :
    State.cellAt { s with mem := Mem.fill s.mem n c } i = c := by
  have heven := pbufBase_even
  have hhigh : State.byteAt { s with mem := Mem.fill s.mem n c } (pbufBase + 2 * i + 1) = c.extractLsb' 8 8 := by
    rw [State.byteAt_fill, if_pos (by omega), if_neg (by omega)]
  have hlow : State.byteAt { s with mem := Mem.fill s.mem n c } (pbufBase + 2 * i) = c.extractLsb' 0 8 := by
    rw [State.byteAt_fill, if_pos (by omega), if_pos (by omega)]
  rw [State.cellAt, hhigh, hlow, color_bytes]

/-- Settles O32: the filled range is the cells of the live buffer, two bytes each. -/
theorem fillSetsEveryCell : Obligations.FillSetsEveryCell := fun s c => by
  refine ⟨fun hnone => by rw [exec_bufFill_noBuf hnone, State.complete], fun hlive => ⟨_, exec_bufFill_live hlive c, ?_⟩⟩
  exact
    { frame := ⟨_, rfl⟩
      cells := fun x y hx hy => cellAt_fill s c (cellIndex_lt hx hy)
      outside := fun off hoff => (State.byteAt_fill s _ c off).trans (if_neg (by simp only at hoff; omega)) }

end Sys2Proof.Laws
end

section
/-! PROOFS. What a drawing leaves in the buffer (R76, R81, R82), and the rows and boxes of the Rasterizer (42_raster.md R83,
R85 to R90). -/

open Sys2Proof Sys2Proof.Machine

namespace Sys2Proof.Laws

/-! ### A cell after a list of `PutPixel`s -/

/-- The colour of the last of the pixels that names the point, if one does. -/
def colorAt : List Pixel → (x y : Int) → Option Color
  | [], _, _ => none
  | p :: ps, x, y => (colorAt ps x y).or (if p.x = x ∧ p.y = y then some p.c else none)

/-- A pixel lands on the cell of an in-buffer point just when it names the point. -/
theorem landsOn_cellIndex {w h x y : Nat} (hx : x < w) (hy : y < h) (p : Pixel) :
    landsOn w h p (y * w + x) = decide (p.x = x ∧ p.y = y) := by
  rw [Bool.eq_iff_iff]
  simp only [landsOn, Bool.and_eq_true, decide_eq_true_eq]
  constructor
  · rintro ⟨⟨⟨⟨hx0, hxw⟩, hy0⟩, hyh⟩, hindex⟩
    have hxw' : p.x.toNat < w := by omega
    have hrow : p.y.toNat = y := by
      have hquot (a b : Nat) (hb : b < w) : (a * w + b) / w = a := by
        rw [Nat.mul_comm, Nat.mul_add_div (by omega), Nat.div_eq_of_lt hb, Nat.add_zero]
      rw [← hquot p.y.toNat p.x.toNat hxw', hindex, hquot y x hx]
    have hcol : p.x.toNat = x := by rw [hrow] at hindex; omega
    omega
  · rintro ⟨hpx, hpy⟩
    rw [hpx, hpy]
    simp [hx, hy]

theorem lastColor_cellIndex {w h x y : Nat} (hx : x < w) (hy : y < h) (ps : List Pixel) :
    lastColor w h ps (y * w + x) = colorAt ps x y := by
  induction ps with
  | nil => rfl
  | cons p ps ih => simp [lastColor, colorAt, ih, landsOn_cellIndex hx hy]

/-- Drawing into the live buffer, cell by cell. -/
theorem drawnAs_plot (base : State) (ps : List Pixel) {f : Nat → Nat → Color}
    (hf : ∀ x y : Nat, x < base.bufW.toNat → y < base.bufH.toNat →
      f x y = (colorAt ps x y).getD (base.pixelAt x y)) : State.DrawnAs base f (base.plot ps) where
  frame := ⟨_, rfl⟩
  cells x y hx hy := by
    rw [hf x y hx hy, ← lastColor_cellIndex hx hy]
    exact State.cellAt_plot base ps _
  outside _ hoff := State.byteAt_plot base ps hoff

theorem colorAt_append (ps qs : List Pixel) (x y : Int) :
    colorAt (ps ++ qs) x y = (colorAt qs x y).or (colorAt ps x y) := by
  induction ps with
  | nil => simp [colorAt]
  | cons p ps ih => rw [List.cons_append, colorAt, colorAt, ih, Option.or_assoc]

theorem hasPoint_iff (ps : List Pixel) (x y : Int) : hasPoint ps x y = true ↔ ∃ p ∈ ps, p.x = x ∧ p.y = y := by
  simp [hasPoint]

/-- When every pixel at the point has one colour, the point holds it if it is named at all. -/
theorem colorAt_of_unique {ps : List Pixel} {x y : Int} {c : Color} (hc : ∀ p ∈ ps, p.x = x → p.y = y → p.c = c) :
    colorAt ps x y = if hasPoint ps x y then some c else none := by
  induction ps with
  | nil => rfl
  | cons p ps ih =>
    have hhead := hc p (by simp)
    have htail := ih (fun q hq => hc q (by simp [hq]))
    have hnamed : hasPoint (p :: ps) x y = (decide (p.x = x ∧ p.y = y) || hasPoint ps x y) := by
      simp [hasPoint]
    rw [colorAt, htail, hnamed]
    by_cases hp : p.x = x ∧ p.y = y
    · rw [if_pos hp, hhead hp.1 hp.2]
      cases hasPoint ps x y <;> simp [hp]
    · rw [if_neg hp, Option.or_none]
      simp only [hp, decide_false, Bool.false_or]

/-! ### Commands that draw (R81) -/

/-- The answer completes with `E_OK` and leaves `f` in the cells of the live buffer, nothing else changed. -/
def Draws (s : State) (r : Result) (f : Nat → Nat → Color) : Prop :=
  ∃ t, r = .next t ∧ State.DrawnAs { s with engine := .idle, err := .ok } f t

theorem Draws.congr {s : State} {r : Result} {f g : Nat → Nat → Color} (h : Draws s r f) (hfg : ∀ x y, f x y = g x y) :
    Draws s r g := by
  obtain rfl : f = g := funext fun x => funext fun y => hfg x y
  exact h

theorem draws_plot {s : State} (hlive : s.bufValid = true) (ps : List Pixel) {f : Nat → Nat → Color}
    (hf : ∀ x y : Nat, f x y = (colorAt ps x y).getD (s.pixelAt x y)) : Draws s (s.draw ps) f :=
  ⟨_, State.draw_live hlive ps, drawnAs_plot (s.complete .ok) ps fun x y _ _ => hf x y⟩

/-- Pixels of one colour: the points they name get it, and the others stay. -/
theorem draws_mono {s : State} (hlive : s.bufValid = true) {ps : List Pixel} {c : Color} (hc : ∀ p ∈ ps, p.c = c)
    {P : Nat → Nat → Prop} [∀ px py, Decidable (P px py)] (hP : ∀ px py : Nat, hasPoint ps px py = true ↔ P px py) :
    Draws s (s.draw ps) (fun px py => if P px py then c else s.pixelAt px py) := by
  refine draws_plot hlive ps fun px py => ?_
  rw [colorAt_of_unique fun p hp _ _ => hc p hp]
  simp only [hP]
  split
  · rfl
  · rfl

/-! ### Without a buffer (R81) -/

/-- Settles O33: the check for a live buffer comes first in every one of these commands. -/
theorem drawWithoutBufferFails : Obligations.DrawWithoutBufferFails := fun s i hnone hi => by
  cases i
  case pixel | hline | hlineGrad | line | rect | rectFill | tri | triFill | triGrad | circle | circleFill =>
    exact State.draw_noBuf hnone _
  case poly | text => exact if_pos hnone
  case char => exact if_neg (by simp [hnone])
  all_goals simp at hi

/-! ### Spans and boxes (R83, R85, R86, R89, R90) -/

/-- The numbers `0 .. n − 1` as integers, as the model's ranges of integers spell them. -/
theorem intRange_eq (n : Nat) : (do let i ← List.range n; pure (i : Int) : List Int) = (List.range n).map Nat.cast := by
  rw [List.map_eq_flatMap]
  rfl

theorem span_eq (xa xb y : Int) (c : Color) :
    span xa xb y c = (List.range (xb - xa + 1).toNat).map (fun (i : Nat) => ⟨xa + (i : Int), y, c⟩) := by
  rw [span, intRange_eq, List.map_map]
  rfl

theorem rows_eq (lo hi : Int) : rows lo hi = (List.range (hi - lo + 1).toNat).map (fun (j : Nat) => lo + (j : Int)) := by
  rw [rows, intRange_eq, List.map_map]
  rfl

theorem mem_span_iff {xa xb y : Int} {c : Color} {p : Pixel} :
    p ∈ span xa xb y c ↔ (xa ≤ p.x ∧ p.x ≤ xb) ∧ p.y = y ∧ p.c = c := by
  obtain ⟨px, py, pc⟩ := p
  simp only [span_eq, List.mem_map, List.mem_range, Pixel.mk.injEq]
  constructor
  · rintro ⟨i, hi, rfl, rfl, rfl⟩
    exact ⟨by omega, rfl, rfl⟩
  · rintro ⟨⟨hlo, hhi⟩, rfl, rfl⟩
    exact ⟨(px - xa).toNat, by omega, by omega, rfl, rfl⟩

theorem mem_hspan_iff {x y w : Int} {c : Color} {p : Pixel} :
    p ∈ hspan x y w c ↔ (x ≤ p.x ∧ p.x < x + w) ∧ p.y = y ∧ p.c = c := by
  unfold hspan
  split
  · rw [mem_span_iff, show p.x ≤ x + w - 1 ↔ p.x < x + w by omega]
  · simp only [List.not_mem_nil, false_iff]
    omega

theorem mem_rows_iff {lo hi j : Int} : j ∈ rows lo hi ↔ lo ≤ j ∧ j ≤ hi := by
  simp only [rows_eq, List.mem_map, List.mem_range]
  constructor
  · rintro ⟨i, hi, rfl⟩
    omega
  · rintro ⟨hlo, hhi⟩
    exact ⟨(j - lo).toNat, by omega, by omega⟩

theorem mem_rectFilled_iff {x y w h : Int} {c : Color} {p : Pixel} :
    p ∈ rectFilled x y w h c ↔ ((x ≤ p.x ∧ p.x < x + w) ∧ (y ≤ p.y ∧ p.y < y + h)) ∧ p.c = c := by
  unfold rectFilled
  split
  · simp only [List.not_mem_nil, false_iff]
    omega
  · simp only [List.mem_flatMap, mem_rows_iff, mem_hspan_iff]
    constructor
    · rintro ⟨j, hj, hx, hy, hc⟩
      exact ⟨⟨hx, by omega⟩, hc⟩
    · rintro ⟨⟨hx, hy⟩, hc⟩
      exact ⟨p.y - y, by omega, hx, by omega, hc⟩

theorem mem_rectOutline_iff {x y w h : Int} {c : Color} {p : Pixel} :
    p ∈ rectOutline x y w h c ↔
      ((x ≤ p.x ∧ p.x < x + w) ∧ (y ≤ p.y ∧ p.y < y + h) ∧
        (p.x = x ∨ p.x = x + w - 1 ∨ p.y = y ∨ p.y = y + h - 1)) ∧ p.c = c := by
  obtain ⟨px, py, pc⟩ := p
  unfold rectOutline
  split
  · simp only [List.not_mem_nil, false_iff]
    omega
  · simp only [List.mem_append, List.mem_flatMap, mem_rows_iff, mem_hspan_iff, List.mem_cons, List.not_mem_nil, or_false,
      Pixel.mk.injEq]
    constructor
    · rintro ((⟨hx, hy, rfl⟩ | ⟨hx, hy, rfl⟩) | ⟨j, hj, ⟨hx, hy, rfl⟩ | ⟨hx, hy, rfl⟩⟩)
      all_goals exact ⟨by omega, rfl⟩
    · rintro ⟨⟨hx, hy, hleft | hright | htop | hbottom⟩, rfl⟩
      · exact .inr ⟨py - y, by omega, .inl ⟨hleft, by omega, rfl⟩⟩
      · exact .inr ⟨py - y, by omega, .inr ⟨hright, by omega, rfl⟩⟩
      · exact .inl (.inl ⟨hx, htop, rfl⟩)
      · exact .inl (.inr ⟨hx, hbottom, rfl⟩)

/-- A figure given by the points it covers and their colours, point by point. -/
theorem colorAt_of_mem_iff {ps : List Pixel} {g : Int → Int → Color} {P : Int → Int → Prop}
    (h : ∀ p : Pixel, p ∈ ps ↔ P p.x p.y ∧ p.c = g p.x p.y) (x y : Int) [Decidable (P x y)] :
    colorAt ps x y = if P x y then some (g x y) else none := by
  have hnamed : hasPoint ps x y = true ↔ P x y := by
    rw [hasPoint_iff]
    constructor
    · rintro ⟨p, hp, hx, hy⟩
      exact hx ▸ hy ▸ ((h p).1 hp).1
    · exact fun hP => ⟨⟨x, y, g x y⟩, (h _).2 ⟨hP, rfl⟩, rfl, rfl⟩
  rw [colorAt_of_unique (c := g x y) fun p hp hx hy => by rw [((h p).1 hp).2, hx, hy]]
  simp only [hnamed]

theorem draws_coloredFigure {s : State} (hlive : s.bufValid = true) {ps : List Pixel} {g : Int → Int → Color}
    {P : Int → Int → Prop} [∀ px py : Nat, Decidable (P px py)] (h : ∀ p : Pixel, p ∈ ps ↔ P p.x p.y ∧ p.c = g p.x p.y) :
    Draws s (s.draw ps) (fun px py => if P px py then g px py else s.pixelAt px py) := by
  refine draws_plot hlive ps fun px py => ?_
  rw [colorAt_of_mem_iff h px py]
  split
  · rfl
  · rfl

/-- A figure in one colour. -/
theorem draws_figure {s : State} (hlive : s.bufValid = true) {ps : List Pixel} {c : Color} {P : Int → Int → Prop}
    [∀ px py : Nat, Decidable (P px py)] (h : ∀ p : Pixel, p ∈ ps ↔ P p.x p.y ∧ p.c = c) :
    Draws s (s.draw ps) (fun px py => if P px py then c else s.pixelAt px py) :=
  draws_coloredFigure hlive (g := fun _ _ => c) h

/-- Settles O34, by the points of each figure. -/
theorem boxesAndSpansDrawTheirCells : Obligations.BoxesAndSpansDrawTheirCells := fun s x y w h c hlive => by
  have mem_point (p : Pixel) : p ∈ [(⟨x, y, c⟩ : Pixel)] ↔ (p.x = x ∧ p.y = y) ∧ p.c = c := by
    obtain ⟨px, py, pc⟩ := p
    simp only [List.mem_singleton, Pixel.mk.injEq, and_assoc]
  have mem_row (p : Pixel) : p ∈ hspan x y w c ↔ (x ≤ p.x ∧ p.x < x + w ∧ p.y = y) ∧ p.c = c := by
    rw [mem_hspan_iff]
    tauto
  exact ⟨draws_figure (P := fun px py => px = x ∧ py = y) hlive mem_point,
    draws_figure (P := fun px py => x ≤ px ∧ px < x + w ∧ py = y) hlive mem_row,
    draws_figure (P := fun px py => (x ≤ px ∧ px < x + w) ∧ (y ≤ py ∧ py < y + h)) hlive fun _ => mem_rectFilled_iff,
    draws_figure (P := fun px py => (x ≤ px ∧ px < x + w) ∧ (y ≤ py ∧ py < y + h) ∧
      (px = x ∨ px = x + w - 1 ∨ py = y ∨ py = y + h - 1)) hlive fun _ => mem_rectOutline_iff⟩

/-! ### Gradient rows in closed form (R83, R87) -/

/-- `i` steps of the accumulators add `i` times the step. -/
theorem gradCells_eq (y : Int) (step : Channels) (n : Nat) (x : Int) (acc : Channels) :
    gradCells y step n x acc = (List.range n).map (fun i =>
      ⟨x + (i : Int), y, packChannels ⟨sar16 (acc.r + i * step.r), sar16 (acc.g + i * step.g), sar16 (acc.b + i * step.b)⟩⟩) := by
  induction n generalizing x acc with
  | zero => rfl
  | succ n ih =>
    have step_succ (a d : Int) (i : Nat) : a + d + i * d = a + ((i + 1 : Nat) : Int) * d := by push_cast; ring
    have x_succ (i : Nat) : x + 1 + (i : Int) = x + ((i + 1 : Nat) : Int) := by push_cast; ring
    rw [gradCells, ih, List.range_succ_eq_map, List.map_cons, List.map_map]
    simp only [Function.comp_def, Channels.map2, step_succ, x_succ, Nat.succ_eq_add_one]
    simp

theorem gradRow_eq (x y w : Int) (c0 c1 : Color) :
    gradRow x y w c0 c1 = (List.range w.toNat).map (fun (i : Nat) => ⟨x + (i : Int), y, gradColor w i c0 c1⟩) := by
  unfold gradRow
  split
  · next hw => rw [Int.toNat_of_nonpos hw]; rfl
  · rw [gradCells_eq]
    rfl

theorem mem_gradRow_iff {x y w : Int} {c0 c1 : Color} {p : Pixel} :
    p ∈ gradRow x y w c0 c1 ↔ (x ≤ p.x ∧ p.x < x + w ∧ p.y = y) ∧ p.c = gradColor w (p.x - x) c0 c1 := by
  obtain ⟨px, py, pc⟩ := p
  simp only [gradRow_eq, List.mem_map, List.mem_range, Pixel.mk.injEq]
  constructor
  · rintro ⟨i, hi, rfl, rfl, rfl⟩
    exact ⟨by omega, by rw [add_sub_cancel_left]⟩
  · rintro ⟨⟨hlo, hhi, rfl⟩, rfl⟩
    have hi : ((px - x).toNat : Int) = px - x := by omega
    exact ⟨(px - x).toNat, by omega, by omega, rfl, by rw [hi]⟩

/-- Settles O35: the row's cells, each with the colour of its step. -/
theorem gradientRowDrawsItsColours : Obligations.GradientRowDrawsItsColours := fun _ x y w c0 c1 hlive =>
  draws_coloredFigure (g := fun px _ => gradColor w (px - x) c0 c1) (P := fun px py => x ≤ px ∧ px < x + w ∧ py = y) hlive
    fun _ => mem_gradRow_iff

end Sys2Proof.Laws
end

section
/-! PROOFS. Interpolation (42_raster.md R83; 43_triangle.md R97, R100): one closed form for intercepts, edge colours and
gradient rows, which stays between its two ends. -/

open Sys2Proof Sys2Proof.Machine

namespace Sys2Proof.Laws

/-! ### The closed form of an edge (R97) -/

/-- A share of `n` in `h` rows, taken at most `h` times, does not go past `n`. -/
theorem tdiv_mul_bounds {n h k : Int} (hn : 0 ≤ n) (hk : 0 ≤ k) (hkh : k ≤ h) :
    0 ≤ n.tdiv h * k ∧ n.tdiv h * k ≤ n := by
  have hquot : 0 ≤ n.tdiv h := Int.tdiv_nonneg hn (by omega)
  have hrem : 0 ≤ n.tmod h := Int.tmod_nonneg h hn
  have hdiv : h * n.tdiv h + n.tmod h = n := Int.mul_tdiv_add_tmod n h
  have hmono : n.tdiv h * k ≤ h * n.tdiv h := by rw [mul_comm h]; exact mul_le_mul_of_nonneg_left hkh hquot
  exact ⟨mul_nonneg hquot hk, by omega⟩

/-- The step is rounded toward zero, so along the edge it does not go past the whole change, either way. -/
theorem step_mul_bounds {d h k : Int} (hk : 0 ≤ k) (hkh : k ≤ h) :
    min 0 d * 65536 ≤ (if h = 0 then 0 else (d * 65536).tdiv h) * k ∧
      (if h = 0 then 0 else (d * 65536).tdiv h) * k ≤ max 0 d * 65536 := by
  split
  · rw [zero_mul]
    omega
  · by_cases hd : 0 ≤ d
    · have := tdiv_mul_bounds (n := d * 65536) (by omega) hk hkh
      omega
    · have := tdiv_mul_bounds (n := -(d * 65536)) (by omega) hk hkh
      rw [Int.neg_tdiv, neg_mul] at this
      omega

/-- The value along an edge stays between the two ends. -/
theorem edgeAt_between {v0 v1 h k : Int} (hk : 0 ≤ k) (hkh : k ≤ h) :
    min v0 v1 ≤ edgeAt v0 (v1 - v0) h k ∧ edgeAt v0 (v1 - v0) h k ≤ max v0 v1 := by
  have hbounds := step_mul_bounds (d := v1 - v0) hk hkh
  unfold edgeAt
  omega

/-! ### Colours (R70, R83, R100) -/

theorem red_pack565 (r : BitVec 5) (g : BitVec 6) (b : BitVec 5) : red (pack565 r g b) = r := by
  apply BitVec.eq_of_toNat_eq
  rw [toNat_red, toNat_pack565]
  omega

theorem green_pack565 (r : BitVec 5) (g : BitVec 6) (b : BitVec 5) : green (pack565 r g b) = g := by
  apply BitVec.eq_of_toNat_eq
  rw [toNat_green, toNat_pack565]
  omega

theorem blue_pack565 (r : BitVec 5) (g : BitVec 6) (b : BitVec 5) : blue (pack565 r g b) = b := by
  apply BitVec.eq_of_toNat_eq
  rw [toNat_blue, toNat_pack565]
  omega

/-- A colour is its channels. -/
theorem pack565_channels (c : Color) : pack565 (red c) (green c) (blue c) = c := by
  apply BitVec.eq_of_toNat_eq
  rw [toNat_pack565, toNat_red, toNat_green, toNat_blue]
  omega

/-- A cell of a gradient row is a row of an edge that is one shorter than the row is wide. -/
theorem gradChannel_eq_edgeAt (w i a b : Int) : gradChannel w i a b = edgeAt a (b - a) (w - 1) i := by
  have hone : w = 1 ↔ w - 1 = 0 := by omega
  simp only [gradChannel, edgeAt, hone]
  rw [Int.add_comm, Int.add_mul_ediv_right _ _ (by decide), mul_comm i, Int.add_comm]

theorem gradColor_eq_edgeColorAt (w i : Int) (c0 c1 : Color) : gradColor w i c0 c1 = edgeColorAt c0 c1 (w - 1) i := by
  simp only [gradColor, edgeColorAt, gradChannel_eq_edgeAt]

/-- A channel's value between two values of the channel is in its range, so it is stored whole. -/
theorem toNat_channel {n : Nat} {v : Int} (a b : BitVec n)
    (h : min (a.toNat : Int) b.toNat ≤ v ∧ v ≤ max (a.toNat : Int) b.toNat) : ((BitVec.ofInt n v).toNat : Int) = v := by
  have ha := a.isLt
  have hb := b.isLt
  have hpow : ((2 ^ n : Nat) : Int) = 2 ^ n := by norm_cast
  rw [BitVec.toNat_ofInt, Int.toNat_of_nonneg (Int.emod_nonneg _ (by positivity))]
  exact Int.emod_eq_of_lt (by omega) (by omega)

theorem between_edgeColorAt {k0 k1 : Color} {h k : Int} (hk : 0 ≤ k) (hkh : k ≤ h) :
    Between k0 k1 (edgeColorAt k0 k1 h k) := by
  have channel {n : Nat} (a b : BitVec n) :
      min a.toNat b.toNat ≤ (BitVec.ofInt n (edgeAt a.toNat ((b.toNat : Int) - a.toNat) h k)).toNat ∧
        (BitVec.ofInt n (edgeAt a.toNat ((b.toNat : Int) - a.toNat) h k)).toNat ≤ max a.toNat b.toNat := by
    have hbetween := edgeAt_between (v0 := a.toNat) (v1 := b.toNat) hk hkh
    have hvalue := toNat_channel a b hbetween
    omega
  simp only [Between, edgeColorAt, red_pack565, green_pack565, blue_pack565]
  exact ⟨channel _ _, channel _ _, channel _ _⟩

/-- The first row of an edge has exactly its start. -/
theorem edgeAt_zero (v0 d h : Int) : edgeAt v0 d h 0 = v0 := by simp [edgeAt]

theorem edgeColorAt_zero (k0 k1 : Color) (h : Int) : edgeColorAt k0 k1 h 0 = k0 := by
  simp only [edgeColorAt, edgeAt_zero, BitVec.ofInt_natCast, BitVec.ofNat_toNat, BitVec.setWidth_eq, pack565_channels]

theorem gradRow_head {w : Int} (x y : Int) (c0 c1 : Color) (hw : 1 ≤ w) :
    (gradRow x y w c0 c1).head? = some ⟨x, y, c0⟩ := by
  have hcells : w.toNat ≠ 0 := by omega
  rw [gradRow_eq, List.head?_map, List.head?_range, if_neg hcells, Option.map_some]
  simp [gradColor_eq_edgeColorAt, edgeColorAt_zero]

/-- Settles O36: the three are one closed form, which no rounding takes past an end. -/
theorem interpolationStaysBetweenTheEnds : Obligations.InterpolationStaysBetweenTheEnds := by
  refine ⟨fun v0 v1 h k hk hkh => edgeAt_between hk hkh, fun k0 k1 h k hk hkh => between_edgeColorAt hk hkh,
    fun x y w c0 c1 => ⟨fun p hp => ?_, gradRow_head x y c0 c1⟩⟩
  obtain ⟨⟨hlo, hhi, _⟩, hc⟩ := mem_gradRow_iff.1 hp
  rw [hc, gradColor_eq_edgeColorAt]
  exact between_edgeColorAt (by omega) (by omega)

end Sys2Proof.Laws
end

section
/-! PROOFS. Bresenham's line (42_raster.md R84, R88): the error term as a function of the steps taken, and what that says of
every cell of the walk. -/

open Sys2Proof Sys2Proof.Machine

namespace Sys2Proof.Laws

/-! ### LINE draws its walk -/

theorem linePass_color {x1 y1 dx dy sx sy : Int} {c : Color} {n : Nat} {x y err : Int} :
    ∀ p ∈ linePass x1 y1 dx dy sx sy c n x y err, p.c = c := by
  induction n generalizing x y err with
  | zero => simp [linePass]
  | succ n ih =>
    intro p hp
    rw [linePass, List.mem_cons] at hp
    obtain rfl | hp := hp
    · rfl
    · split at hp
      · simp at hp
      · exact ih p hp

theorem lineFn_color {x0 y0 x1 y1 : Int} {c : Color} : ∀ p ∈ lineFn x0 y0 x1 y1 c, p.c = c := linePass_color

/-- Settles O37: the pixels of a line are those of its walk, all of the one colour. -/
theorem lineDrawsItsWalk : Obligations.LineDrawsItsWalk := fun _ _ _ _ _ _ hlive =>
  draws_mono hlive lineFn_color (fun _ _ => Iff.rfl)

/-! ### One pass, in steps taken (R84) -/

/-- One pass, seen from the axis of the longer side `m`: after `p` steps on it and `q` on the other axis, of side `k`, the
pass takes the longer axis, and the other one just when that brings the cell nearer to the ideal line. -/
theorem majorAxis_pass {m k p q : Int} (hk : 0 ≤ k) (hkm : k ≤ m) (hm : 0 < m) (hp : 0 ≤ p) (hpm : p ≤ m) (hqk : q ≤ k)
    (hlo : -m < 2 * (p * k - q * m)) (hhi : 2 * (p * k - q * m) ≤ m) (hend : ¬ (p = m ∧ q = k)) :
    p + 1 ≤ m ∧ 2 * ((q + 1) * m - (p + 1) * k) > -k ∧
      if 2 * ((q + 1) * m - (p + 1) * k) < m then
        q + 1 ≤ k ∧ -m < 2 * ((p + 1) * k - (q + 1) * m) ∧ 2 * ((p + 1) * k - (q + 1) * m) ≤ m
      else -m < 2 * ((p + 1) * k - q * m) ∧ 2 * ((p + 1) * k - q * m) ≤ m := by
  obtain ⟨e, he⟩ : ∃ e, p * k - q * m = e := ⟨_, rfl⟩
  have hpk : (p + 1) * k = p * k + k := by ring
  have hqm : (q + 1) * m = q * m + m := by ring
  have hlast : p + 1 ≤ m := by
    by_contra hnot
    obtain rfl : p = m := by omega
    have hq : q + 1 ≤ k := by omega
    have : p * (q + 1) ≤ p * k := mul_le_mul_of_nonneg_left hq hp
    have : p * (q + 1) = q * p + p := by ring
    omega
  have hdiagonal : k = m → e ≤ 0 := by
    rintro rfl
    have hfactor : e = (p - q) * k := by rw [← he]; ring
    by_cases hpq : p - q ≤ 0
    · rw [hfactor]
      exact mul_nonpos_of_nonpos_of_nonneg hpq hk
    · have : 1 * k ≤ (p - q) * k := mul_le_mul_of_nonneg_right (by omega) hk
      omega
  refine ⟨hlast, by omega, ?_⟩
  split
  · refine ⟨?_, by omega, by omega⟩
    by_contra hnot
    obtain rfl : q = k := by omega
    have : (p + 1) * q ≤ m * q := mul_le_mul_of_nonneg_right hlast hk
    have : m * q = q * m := by ring
    omega
  · omega

/-! ### The cells of the walk -/

/-- The cell is next to the ideal line on the minor axis. -/
def NearLine (dx dy a b : Int) : Prop :=
  (dy ≤ dx → 0 < dx → -dx < 2 * (a * dy - b * dx) ∧ 2 * (a * dy - b * dx) ≤ dx) ∧
    (dx < dy → -dy < 2 * (b * dx - a * dy) ∧ 2 * (b * dx - a * dy) ≤ dy)

/-- `a` x-steps and `b` y-steps lead to a cell of the walk. -/
structure OnWalk (dx dy a b : Int) : Prop where
  x_nonneg : 0 ≤ a
  x_le : a ≤ dx
  y_nonneg : 0 ≤ b
  y_le : b ≤ dy
  near : NearLine dx dy a b

/-- The steps on the axis of the longer side: one a pass. -/
def majorSteps (dx dy a b : Int) : Int := if dy ≤ dx then a else b

/-- `LineFn`'s error term after `a` x-steps and `b` y-steps. -/
def lineErr (dx dy a b : Int) : Int := (b + 1) * dx - (a + 1) * dy

/-- The x-steps, and the y-steps, after one more pass. -/
def nextA (dx dy a b : Int) : Int := if 2 * lineErr dx dy a b > -dy then a + 1 else a
def nextB (dx dy a b : Int) : Int := if 2 * lineErr dx dy a b < dx then b + 1 else b

theorem onWalk_start {dx dy : Int} (hdx : 0 ≤ dx) (hdy : 0 ≤ dy) : OnWalk dx dy 0 0 := by
  refine ⟨le_rfl, hdx, le_rfl, hdy, ?_, ?_⟩ <;> omega

/-- A pass from a cell of the walk but its end leads to a cell of the walk, one step on along the longer side. -/
theorem onWalk_next {dx dy a b : Int} (h : OnWalk dx dy a b) (hend : ¬ (a = dx ∧ b = dy)) :
    OnWalk dx dy (nextA dx dy a b) (nextB dx dy a b) ∧
      majorSteps dx dy (nextA dx dy a b) (nextB dx dy a b) = majorSteps dx dy a b + 1 := by
  obtain ⟨ha, hadx, hb, hbdy, hx, hy⟩ := h
  by_cases hmajor : dy ≤ dx
  · have hdx : 0 < dx := by omega
    obtain ⟨hlo, hhi⟩ := hx hmajor hdx
    obtain ⟨hlast, htake, hminor⟩ := majorAxis_pass (by omega) hmajor hdx ha hadx hbdy hlo hhi hend
    have hA : nextA dx dy a b = a + 1 := if_pos htake
    rw [hA]
    refine ⟨?_, by simp only [majorSteps, if_pos hmajor]⟩
    by_cases hstep : 2 * lineErr dx dy a b < dx
    · have hB : nextB dx dy a b = b + 1 := if_pos hstep
      rw [lineErr] at hstep
      rw [if_pos hstep] at hminor
      obtain ⟨hb', hnear⟩ := hminor
      rw [hB]
      exact ⟨by omega, hlast, by omega, hb', fun _ _ => hnear, by omega⟩
    · have hB : nextB dx dy a b = b := if_neg hstep
      rw [lineErr] at hstep
      rw [if_neg hstep] at hminor
      rw [hB]
      exact ⟨by omega, hlast, by omega, hbdy, fun _ _ => hminor, by omega⟩
  · obtain ⟨hlo, hhi⟩ := hy (by omega)
    obtain ⟨hlast, htake, hminor⟩ :=
      majorAxis_pass (by omega) (by omega) (by omega) hb hbdy hadx hlo hhi (fun h => hend h.symm)
    have hB : nextB dx dy a b = b + 1 := if_pos (by unfold lineErr; omega)
    rw [hB]
    refine ⟨?_, by simp only [majorSteps, if_neg hmajor]⟩
    by_cases hstep : 2 * lineErr dx dy a b > -dy
    · have hA : nextA dx dy a b = a + 1 := if_pos hstep
      rw [lineErr] at hstep
      rw [if_pos (by omega)] at hminor
      obtain ⟨ha', hnear⟩ := hminor
      rw [hA]
      exact ⟨by omega, ha', by omega, hlast, by omega, fun _ => hnear⟩
    · have hA : nextA dx dy a b = a := if_neg hstep
      rw [lineErr] at hstep
      rw [if_neg (by omega)] at hminor
      rw [hA]
      exact ⟨by omega, hadx, by omega, hlast, by omega, fun _ => hminor⟩

theorem majorSteps_le {dx dy a b : Int} (h : OnWalk dx dy a b) : majorSteps dx dy a b ≤ max dx dy := by
  obtain ⟨_, hadx, _, hbdy, _⟩ := h
  unfold majorSteps
  split <;> omega

/-- As many steps as the longer side is long lead to the end. -/
theorem eq_end_of_majorSteps {dx dy a b : Int} (h : OnWalk dx dy a b) (hlast : majorSteps dx dy a b = max dx dy) :
    a = dx ∧ b = dy := by
  by_contra hend
  obtain ⟨hnext, hcount⟩ := onWalk_next h hend
  have := majorSteps_le hnext
  omega

/-! ### The walk as a list -/

/-- One step of a walk in the directions `sx` and `sy`, on an axis only where the line extends. -/
def WalkStep (dx dy sx sy : Int) (p q : Pixel) : Prop :=
  (q.x = p.x ∨ q.x = p.x + sx ∧ 0 < dx) ∧ (q.y = p.y ∨ q.y = p.y + sy ∧ 0 < dy) ∧
    (q.x ≠ p.x ∨ q.y ≠ p.y) ∧ q.c = p.c

/-- The pixel after `a` x-steps and `b` y-steps. -/
def walkPixel (x0 y0 sx sy : Int) (c : Color) (a b : Int) : Pixel := ⟨x0 + sx * a, y0 + sy * b, c⟩

/-- A walk of `n` pixels from `(a, b)` to the end. -/
structure IsWalk (x0 y0 dx dy sx sy : Int) (c : Color) (n : Nat) (a b : Int) (ps : List Pixel) : Prop where
  head : ps.head? = some (walkPixel x0 y0 sx sy c a b)
  last : ps.getLast? = some (walkPixel x0 y0 sx sy c dx dy)
  length : ps.length = n
  chain : ps.IsChain (WalkStep dx dy sx sy)
  cells : ∀ p ∈ ps, ∃ a b, OnWalk dx dy a b ∧ p = walkPixel x0 y0 sx sy c a b

theorem walkStep_next {x0 y0 dx dy sx sy a b : Int} (c : Color) (hsx : sx = 1 ∨ sx = -1) (hsy : sy = 1 ∨ sy = -1)
    (h : OnWalk dx dy a b) (hend : ¬ (a = dx ∧ b = dy)) :
    WalkStep dx dy sx sy (walkPixel x0 y0 sx sy c a b)
      (walkPixel x0 y0 sx sy c (nextA dx dy a b) (nextB dx dy a b)) := by
  obtain ⟨⟨_, hA_le, _, hB_le, _⟩, hcount⟩ := onWalk_next h hend
  have hA : nextA dx dy a b = a ∨ nextA dx dy a b = a + 1 := by unfold nextA; split <;> simp
  have hB : nextB dx dy a b = b ∨ nextB dx dy a b = b + 1 := by unfold nextB; split <;> simp
  have ha := h.x_nonneg
  have hb := h.y_nonneg
  have hmoves : nextA dx dy a b = a + 1 ∨ nextB dx dy a b = b + 1 := by
    unfold majorSteps at hcount
    split at hcount
    · exact .inl hcount
    · exact .inr hcount
  simp only [WalkStep, walkPixel]
  refine ⟨?_, ?_, ?_, trivial⟩
  · obtain hA | hA := hA
    · exact .inl (by rw [hA])
    · exact .inr ⟨by rw [hA]; ring, by omega⟩
  · obtain hB | hB := hB
    · exact .inl (by rw [hB])
    · exact .inr ⟨by rw [hB]; ring, by omega⟩
  · obtain hA | hB := hmoves
    · rw [hA, mul_add]
      exact .inl (by omega)
    · rw [hB, mul_add]
      exact .inr (by omega)

/-- The loop of `LineFn` from a cell of the walk, with the error term and the passes that are left, is the walk from there. -/
theorem linePass_isWalk {x0 y0 dx dy sx sy : Int} {c : Color} (hsx : sx = 1 ∨ sx = -1) (hsy : sy = 1 ∨ sy = -1)
    {n : Nat} {a b : Int} (h : OnWalk dx dy a b) (hn : (n : Int) = max dx dy - majorSteps dx dy a b) :
    IsWalk x0 y0 dx dy sx sy c (n + 1) a b
      (linePass (x0 + sx * dx) (y0 + sy * dy) dx dy sx sy c (n + 1) (x0 + sx * a) (y0 + sy * b) (lineErr dx dy a b)) := by
  have hthere : (x0 + sx * a = x0 + sx * dx ∧ y0 + sy * b = y0 + sy * dy) ↔ (a = dx ∧ b = dy) := by
    obtain rfl | rfl := hsx <;> obtain rfl | rfl := hsy <;> omega
  induction n generalizing a b with
  | zero =>
    have hend := eq_end_of_majorSteps h (by omega)
    rw [linePass, if_pos (hthere.2 hend)]
    obtain ⟨rfl, rfl⟩ := hend
    exact ⟨rfl, rfl, rfl, .singleton _, fun p hp => ⟨a, b, h, List.mem_singleton.1 hp⟩⟩
  | succ n ih =>
    have hend : ¬ (a = dx ∧ b = dy) := by
      rintro ⟨rfl, rfl⟩
      unfold majorSteps at hn
      split at hn <;> omega
    obtain ⟨hnext, hcount⟩ := onWalk_next h hend
    have hrest := ih hnext (by omega) (by obtain rfl | rfl := hsx <;> obtain rfl | rfl := hsy <;> omega)
    have hx : (if decide (2 * lineErr dx dy a b > -dy) = true then x0 + sx * a + sx else x0 + sx * a)
        = x0 + sx * nextA dx dy a b := by
      simp only [decide_eq_true_eq, nextA]
      split <;> ring
    have hy : (if decide (2 * lineErr dx dy a b < dx) = true then y0 + sy * b + sy else y0 + sy * b)
        = y0 + sy * nextB dx dy a b := by
      simp only [decide_eq_true_eq, nextB]
      split <;> ring
    have herr : (if decide (2 * lineErr dx dy a b > -dy) = true then lineErr dx dy a b - dy else lineErr dx dy a b)
        + (if decide (2 * lineErr dx dy a b < dx) = true then dx else 0)
        = lineErr dx dy (nextA dx dy a b) (nextB dx dy a b) := by
      simp only [decide_eq_true_eq, nextA, nextB]
      split <;> split <;> simp only [lineErr] <;> ring
    rw [linePass, if_neg (fun hp => hend (hthere.1 hp))]
    simp only [hx, hy, herr]
    obtain ⟨head, last, length, chain, cells⟩ := hrest
    refine ⟨rfl, ?_, by rw [List.length_cons, length], ?_, ?_⟩
    · rw [List.getLast?_cons, last]
      rfl
    · rw [List.isChain_cons, head]
      exact ⟨fun q hq => Option.some.inj hq ▸ walkStep_next c hsx hsy h hend, chain⟩
    · intro p hp
      obtain rfl | hp := List.mem_cons.1 hp
      · exact ⟨a, b, h, rfl⟩
      · exact cells p hp

/-- A signed direction and a length make up a difference. -/
theorem direction_mul_abs (u v : Int) : u + (if u < v then 1 else -1) * |v - u| = v := by
  split
  · rw [abs_of_pos (by omega)]; omega
  · rw [abs_of_nonpos (by omega)]; omega

theorem direction_eq (u v : Int) : (if u < v then 1 else -1 : Int) = 1 ∨ (if u < v then 1 else -1 : Int) = -1 := by
  split <;> simp

/-- Where the line extends, the direction is the sign of the difference. -/
theorem direction_eq_sign {u v : Int} (h : 0 < |v - u|) : (if u < v then 1 else -1 : Int) = (v - u).sign := by
  split
  · rw [Int.sign_eq_one_of_pos (by omega)]
  · have : v - u ≠ 0 := abs_pos.1 h
    rw [Int.sign_eq_neg_one_of_neg (by omega)]

theorem lineFn_isWalk (x0 y0 x1 y1 : Int) (c : Color) :
    IsWalk x0 y0 |x1 - x0| |y1 - y0| (if x0 < x1 then 1 else -1) (if y0 < y1 then 1 else -1) c
      ((max |x1 - x0| |y1 - y0|).toNat + 1) 0 0 (lineFn x0 y0 x1 y1 c) := by
  have hdx := abs_nonneg (x1 - x0)
  have hdy := abs_nonneg (y1 - y0)
  have hstart : majorSteps |x1 - x0| |y1 - y0| 0 0 = 0 := by unfold majorSteps; split <;> rfl
  have h := linePass_isWalk (x0 := x0) (y0 := y0) (c := c) (n := (max |x1 - x0| |y1 - y0|).toNat)
    (direction_eq x0 x1) (direction_eq y0 y1) (onWalk_start hdx hdy) (by omega)
  rw [direction_mul_abs, direction_mul_abs] at h
  simpa [lineFn, lineErr] using h

/-- Settles O38, by the walk as a list: its cells are those after some steps taken, next to the ideal line. -/
theorem lineWalkReachesItsEnd : Obligations.LineWalkReachesItsEnd := fun x0 y0 x1 y1 c => by
  obtain ⟨head, last, length, chain, cells⟩ := lineFn_isWalk x0 y0 x1 y1 c
  refine ⟨by simpa [walkPixel] using head, ?_, length, ?_, fun p hp => ?_⟩
  · rw [last, walkPixel, direction_mul_abs, direction_mul_abs]
  · refine chain.imp fun p q ⟨hx, hy, hmoves, hc⟩ => ⟨hx.imp_right fun ⟨hq, hdx⟩ => ?_, hy.imp_right fun ⟨hq, hdy⟩ => ?_, hmoves, hc⟩
    · rw [hq, direction_eq_sign hdx]
    · rw [hq, direction_eq_sign hdy]
  · obtain ⟨a, b, ⟨ha, _, hb, _, hnear⟩, rfl⟩ := cells p hp
    have habs {s k : Int} (u : Int) (hs : s = 1 ∨ s = -1) (hk : 0 ≤ k) : |u + s * k - u| = k := by
      rw [add_sub_cancel_left]
      obtain rfl | rfl := hs <;> simp [abs_of_nonneg hk]
    simp only [walkPixel, habs x0 (direction_eq x0 x1) ha, habs y0 (direction_eq y0 y1) hb]
    exact hnear

end Sys2Proof.Laws
end

section
/-! PROOFS. The midpoint circle and its mirror images (42_raster.md R91 to R93). -/

open Sys2Proof Sys2Proof.Machine

namespace Sys2Proof.Laws

/-! ### The walk is the midpoint circle (R91) -/

/-- The octant points nearest to the circle of radius `r`. -/
def OctantPoint (r x y : Int) : Prop := 0 ≤ y ∧ y ≤ x ∧ x * x - x < r * r - y * y ∧ r * r - y * y ≤ x * x + x

/-- Where a pass of the walk stands: nearest to the circle on its row while it is in the octant, the decision term `d` being
that of the next row. -/
structure OnCircle (r x y d : Int) : Prop where
  x_nonneg : 0 ≤ x
  y_nonneg : 0 ≤ y
  outer : r * r - y * y ≤ x * x + x
  inner : y ≤ x → x * x - x < r * r - y * y
  decision : d = (y + 1) * (y + 1) + x * x - x - r * r

theorem onCircle_start {r : Int} (hr : 1 ≤ r) : OnCircle r r 0 (1 - r) :=
  ⟨by omega, le_rfl, by omega, fun _ => by omega, by ring⟩

/-- The walk never stands at x = 0 inside the octant. -/
theorem OnCircle.x_pos {r x y d : Int} (h : OnCircle r x y d) (hr : 1 ≤ r) (hxy : y ≤ x) : 1 ≤ x := by
  have hx := h.x_nonneg
  by_contra hnot
  obtain rfl : x = 0 := by omega
  obtain rfl : y = 0 := by have := h.y_nonneg; omega
  have hbound := h.outer
  have : 1 * 1 ≤ r * r := mul_le_mul hr hr (by decide) (by omega)
  omega

/-- A pass that keeps x. -/
theorem OnCircle.next_keep {r x y d : Int} (h : OnCircle r x y d) (hd : d < 0) :
    OnCircle r x (y + 1) (d + 2 * (y + 1) + 1) := by
  obtain ⟨hx, hy, houter, _, hdec⟩ := h
  have hsq : (y + 1) * (y + 1) = y * y + 2 * y + 1 := by ring
  refine ⟨hx, by omega, by omega, fun _ => by omega, ?_⟩
  rw [hdec]
  ring

/-- A pass that takes x one in. -/
theorem OnCircle.next_in {r x y d : Int} (h : OnCircle r x y d) (hr : 1 ≤ r) (hxy : y ≤ x) (hd : ¬ d < 0) :
    OnCircle r (x - 1) (y + 1) (d + 2 * ((y + 1) - (x - 1)) + 1) := by
  have hx := h.x_pos hr hxy
  obtain ⟨_, hy, _, hinner, hdec⟩ := h
  have hsq : (y + 1) * (y + 1) = y * y + 2 * y + 1 := by ring
  have hsx : (x - 1) * (x - 1) = x * x - 2 * x + 1 := by ring
  refine ⟨by omega, by omega, by omega, fun hin => ?_, ?_⟩
  · have := hinner hxy
    omega
  · rw [hdec]
    ring

/-- On one row only one x is nearest. -/
theorem octantPoint_unique {r x y d u : Int} (h : OnCircle r x y d) (hxy : y ≤ x) (hu : OctantPoint r u y) : u = x := by
  obtain ⟨hy, hyu, hlo, hhi⟩ := hu
  have hlo' := h.inner hxy
  have hhi' := h.outer
  have hsq_u : (u + 1) * u = u * u + u ∧ u * (u - 1) = u * u - u := ⟨by ring, by ring⟩
  have hsq_x : (x + 1) * x = x * x + x ∧ x * (x - 1) = x * x - x := ⟨by ring, by ring⟩
  by_contra hne
  obtain hlt | hgt := lt_or_gt_of_ne hne
  · have : (u + 1) * u ≤ x * (x - 1) := mul_le_mul (by omega) (by omega) (by omega) (by omega)
    omega
  · have : (x + 1) * x ≤ u * (u - 1) := mul_le_mul (by omega) (by omega) (by omega) (by omega)
    omega

/-- Past the octant no row has a nearest point left. -/
theorem no_octantPoint_past {r x y d u v : Int} (h : OnCircle r x y d) (hxy : ¬ y ≤ x) (hv : y ≤ v) :
    ¬ OctantPoint r u v := by
  rintro ⟨_, hvu, hlo, _⟩
  have houter := h.outer
  have hx := h.x_nonneg
  have hy := h.y_nonneg
  have : y * y ≤ v * v := mul_le_mul hv hv hy (by omega)
  have : (x + 1) * x ≤ u * (u - 1) := mul_le_mul (by omega) (by omega) hx (by omega)
  have : u * (u - 1) = u * u - u := by ring
  have : (x + 1) * x = x * x + x := by ring
  omega

/-- From a pass on, the walk visits the nearest octant points of its row and of all rows above. -/
theorem mem_circlePass_iff {r : Int} (hr : 1 ≤ r) {n : Nat} {x y d : Int} (h : OnCircle r x y d)
    (hn : x - y + 1 ≤ n) (u v : Int) : (u, v) ∈ circlePass n x y d ↔ y ≤ v ∧ OctantPoint r u v := by
  induction n generalizing x y d with
  | zero =>
    simp only [circlePass, List.not_mem_nil, false_iff, not_and]
    exact no_octantPoint_past h (by omega)
  | succ n ih =>
    rw [circlePass]
    split
    · next hxy =>
      have hrest : (u, v) ∈ (if d < 0 then circlePass n x (y + 1) (d + 2 * (y + 1) + 1)
          else circlePass n (x - 1) (y + 1) (d + 2 * ((y + 1) - (x - 1)) + 1)) ↔ y + 1 ≤ v ∧ OctantPoint r u v := by
        split
        · next hd => exact ih (h.next_keep hd) (by omega)
        · next hd => exact ih (h.next_in hr hxy hd) (by omega)
      rw [List.mem_cons, hrest, Prod.mk.injEq]
      constructor
      · rintro (⟨rfl, rfl⟩ | ⟨hv, hpoint⟩)
        · exact ⟨le_rfl, h.y_nonneg, hxy, h.inner hxy, h.outer⟩
        · exact ⟨by omega, hpoint⟩
      · rintro ⟨hv, hpoint⟩
        obtain rfl | hlt := hv.eq_or_lt
        · exact .inl ⟨octantPoint_unique h hxy hpoint, rfl⟩
        · exact .inr ⟨hlt, hpoint⟩
    · next hxy =>
      simp only [List.not_mem_nil, false_iff, not_and]
      exact no_octantPoint_past h hxy

/-- Settles O39: the walk starts on the circle, and rows below 0 have no octant point. -/
theorem circleWalkIsTheMidpointCircle : Obligations.CircleWalkIsTheMidpointCircle := by
  refine ⟨rfl, fun r x y hr => ?_⟩
  have h := mem_circlePass_iff (n := r.toNat + 1) hr (onCircle_start hr) (by omega) x y
  exact h.trans ⟨fun ⟨_, hpoint⟩ => hpoint, fun hpoint => ⟨hpoint.1, hpoint⟩⟩

/-! ### The mirror images (R92, R93) -/

/-- A walk that starts on a row from 0 on visits points of the octant only. -/
theorem circlePass_octant {n : Nat} {x y d : Int} (hy : 0 ≤ y) : ∀ p ∈ circlePass n x y d, 0 ≤ p.2 ∧ p.2 ≤ p.1 := by
  induction n generalizing x y d with
  | zero => simp [circlePass]
  | succ n ih =>
    intro p hp
    rw [circlePass] at hp
    split at hp
    · next hxy =>
      obtain rfl | hp := List.mem_cons.1 hp
      · exact ⟨hy, hxy⟩
      · split at hp
        · exact ih (by omega) p hp
        · exact ih (by omega) p hp
    · simp at hp

theorem circleWalk_octant {r : Int} : ∀ p ∈ circleWalk r, 0 ≤ p.2 ∧ p.2 ≤ p.1 := circlePass_octant le_rfl

/-- The eight points of a visit are those at its two distances from the centre, either way round. -/
theorem mem_octants_iff {cx cy : Int} {c : Color} {v : Int × Int} (hv : 0 ≤ v.2 ∧ v.2 ≤ v.1) {p : Pixel} :
    p ∈ octants cx cy c v ↔
      (|p.x - cx| = v.1 ∧ |p.y - cy| = v.2 ∨ |p.x - cx| = v.2 ∧ |p.y - cy| = v.1) ∧ p.c = c := by
  obtain ⟨px, py, pc⟩ := p
  simp only [octants, List.mem_cons, List.not_mem_nil, or_false, Pixel.mk.injEq, abs_eq hv.1, abs_eq (hv.1.trans hv.2)]
  by_cases hc : pc = c <;> simp only [hc, and_true, and_false, or_false]
  omega

/-- The four spans of a visit are the rows at its one distance, out to the other one. -/
theorem mem_octantSpans_iff {cx cy : Int} {c : Color} {v : Int × Int} (hv : 0 ≤ v.2 ∧ v.2 ≤ v.1) {p : Pixel} :
    p ∈ octantSpans cx cy c v ↔
      (|p.x - cx| ≤ v.1 ∧ |p.y - cy| = v.2 ∨ |p.x - cx| ≤ v.2 ∧ |p.y - cy| = v.1) ∧ p.c = c := by
  simp only [octantSpans, List.mem_append, mem_span_iff, abs_le, abs_eq hv.1, abs_eq (hv.1.trans hv.2)]
  by_cases hc : p.c = c <;> simp only [hc, and_true, and_false, or_false]
  omega

/-- Pixels drawn visit by visit, nothing for a negative radius. -/
theorem mem_visits_iff {r : Int} {c : Color} {pixels : Int × Int → List Pixel} {near : Int × Int → Pixel → Prop}
    (h : ∀ v : Int × Int, 0 ≤ v.2 ∧ v.2 ≤ v.1 → ∀ p, p ∈ pixels v ↔ near v p ∧ p.c = c) (p : Pixel) :
    p ∈ (if r < 0 then [] else (circleWalk r).flatMap pixels) ↔
      (0 ≤ r ∧ ∃ v ∈ circleWalk r, near v p) ∧ p.c = c := by
  split
  · next hr => simp only [List.not_mem_nil, false_iff]; omega
  · next hr =>
    rw [List.mem_flatMap]
    constructor
    · rintro ⟨v, hv, hp⟩
      obtain ⟨hnear, hc⟩ := (h v (circleWalk_octant v hv) p).1 hp
      exact ⟨⟨by omega, v, hv, hnear⟩, hc⟩
    · rintro ⟨⟨_, v, hv, hnear⟩, hc⟩
      exact ⟨v, hv, (h v (circleWalk_octant v hv) p).2 ⟨hnear, hc⟩⟩

/-- Settles O40, by the images of one visit. -/
theorem circlesDrawTheirMirrorImages : Obligations.CirclesDrawTheirMirrorImages := fun s cx cy r c hlive => by
  constructor
  · refine draws_figure (P := fun px py => 0 ≤ r ∧ (circleWalk r).any (fun p =>
      decide (|px - cx| = p.1 ∧ |py - cy| = p.2) || decide (|px - cx| = p.2 ∧ |py - cy| = p.1)) = true) hlive fun p => ?_
    simp only [List.any_eq_true, Bool.or_eq_true, decide_eq_true_eq]
    exact mem_visits_iff (fun _ hv _ => mem_octants_iff hv) p
  · refine draws_figure (P := fun px py => 0 ≤ r ∧ (circleWalk r).any (fun p =>
      decide (|px - cx| ≤ p.1 ∧ |py - cy| = p.2) || decide (|px - cx| ≤ p.2 ∧ |py - cy| = p.1)) = true) hlive fun p => ?_
    simp only [List.any_eq_true, Bool.or_eq_true, decide_eq_true_eq]
    exact mem_visits_iff (fun _ hv _ => mem_octantSpans_iff hv) p

end Sys2Proof.Laws
end

section
/-! PROOFS. The outline of a polygon (42_raster.md R94). -/

open Sys2Proof Sys2Proof.Machine

namespace Sys2Proof.Laws

/-- Each of `n` vertices with the next one, and the last with the first. -/
theorem zip_rotateLeft_range {α : Type} {n : Nat} (hn : 2 ≤ n) (v : Nat → α) :
    ((List.range n).map v).zip (((List.range n).map v).rotateLeft 1) =
      (List.range n).map (fun k => (v k, v ((k + 1) % n))) := by
  have hrotate : ((List.range n).map v).rotateLeft 1 = (List.range n).map (fun k => v ((k + 1) % n)) := by
    have hmod : 1 % n = 1 := Nat.mod_eq_of_lt (by omega)
    simp only [List.rotateLeft, List.length_map, List.length_range, if_neg (show ¬ n ≤ 1 by omega), hmod]
    refine List.ext_getElem (by simp; omega) fun k hk _ => ?_
    simp only [List.length_append, List.length_drop, List.length_take, List.length_map, List.length_range] at hk
    by_cases hlast : k + 1 < n
    · simp [Nat.mod_eq_of_lt hlast, show k < n - 1 by omega]
    · obtain rfl : n = k + 1 := by omega
      simp
  rw [hrotate, List.zip_map']

theorem mem_closedOutline_color {vs : List (Int × Int)} {c : Color} : ∀ p ∈ closedOutline vs c, p.c = c := by
  intro p hp
  obtain ⟨_, _, hp⟩ := List.mem_flatMap.1 hp
  exact lineFn_color p hp

theorem hasPoint_flatMap {α : Type} (l : List α) (f : α → List Pixel) (x y : Int) :
    hasPoint (l.flatMap f) x y = l.any (fun a => hasPoint (f a) x y) := by
  simp only [hasPoint, List.any_flatMap]

theorem hasPoint_append (ps qs : List Pixel) (x y : Int) :
    hasPoint (ps ++ qs) x y = (hasPoint ps x y || hasPoint qs x y) := by
  simp only [hasPoint, List.any_append]

/-- The outline names the points of the lines from each vertex to the next. -/
theorem hasPoint_closedOutline (s : State) {xs ys n : Nat} (hn : 2 ≤ n) (c : Color) (x y : Int) :
    hasPoint (closedOutline (s.vertices xs ys n) c) x y = (List.range n).any (fun k =>
      hasPoint (lineFn (s.pram16 (xs + 2 * k)).toInt (s.pram16 (ys + 2 * k)).toInt
        (s.pram16 (xs + 2 * ((k + 1) % n))).toInt (s.pram16 (ys + 2 * ((k + 1) % n))).toInt c) x y) := by
  rw [closedOutline, State.vertices, zip_rotateLeft_range hn, hasPoint_flatMap, List.any_map]
  rfl

theorem arrayOk_iff (p : Params) (off n : Nat) : arrayOk p off n = true ↔ off % 2 = 0 ∧ off + 2 * n ≤ p.pramBytes := by
  simp [arrayOk, inPram]

theorem exec_poly_live {s : State} (hlive : s.bufValid = true) (xs ys n : Nat) (c : Color) :
    exec (.poly xs ys n c) s =
      if n < 3 then .next (s.complete .ok)
      else if arrayOk s.params xs n && arrayOk s.params ys n then s.draw (closedOutline (s.vertices xs ys n) c)
      else .next (s.complete .arg) := by
  simp only [exec, execPoly, hlive, Bool.true_eq_false, if_false]

/-- Settles O41, by the checks in their order. -/
theorem polygonOutline : Obligations.PolygonOutline := fun s xs ys n c hlive => by
  rw [exec_poly_live hlive]
  refine ⟨fun hn => by rw [if_pos hn, State.complete], fun hn hbad => ?_, fun hn hx hy hxs hys => ?_⟩
  · rw [if_neg (by omega), if_neg ?_, State.complete]
    rw [Bool.and_eq_true, arrayOk_iff, arrayOk_iff]
    omega
  · rw [if_neg (by omega), if_pos (by simp [arrayOk_iff, *])]
    refine draws_mono hlive mem_closedOutline_color fun px py => ?_
    rw [hasPoint_closedOutline s (by omega)]

end Sys2Proof.Laws
end

section
/-! PROOFS. The triangle commands (43_triangle.md R98 to R100): the three lines of TRI, and the rows of TRI_FILL and TRI_GRAD
between the intercepts of the edges. -/

open Sys2Proof Sys2Proof.Machine

namespace Sys2Proof.Laws

/-! ### TRI (R98) -/

theorem mem_triOutline_color {x0 y0 x1 y1 x2 y2 : Int} {c : Color} : ∀ p ∈ triOutline x0 y0 x1 y1 x2 y2 c, p.c = c := by
  intro p hp
  simp only [triOutline, List.mem_append] at hp
  obtain (hp | hp) | hp := hp
  all_goals exact lineFn_color p hp

/-- Settles O43: the pixels are those of the three lines. -/
theorem triangleOutline : Obligations.TriangleOutline := fun s x0 y0 x1 y1 x2 y2 c hlive =>
  draws_mono hlive mem_triOutline_color (fun px py => by rw [triOutline, hasPoint_append, hasPoint_append])

/-! ### The vertices and their bounds (R96) -/

theorem compareSwap_x (v w : Vertex) :
    (compareSwap v w).1.x = v.x ∧ (compareSwap v w).2.x = w.x ∨
      (compareSwap v w).1.x = w.x ∧ (compareSwap v w).2.x = v.x := by
  unfold compareSwap
  split
  · exact .inr ⟨rfl, rfl⟩
  · exact .inl ⟨rfl, rfl⟩

/-- Sorting keeps the least and the greatest x. -/
theorem sort3_bounds_x {v0 v1 v2 a b c : Vertex} (hsort : sort3 v0 v1 v2 = (a, b, c)) :
    min a.x (min b.x c.x) = min v0.x (min v1.x v2.x) ∧ max a.x (max b.x c.x) = max v0.x (max v1.x v2.x) := by
  rw [sort3_eq_compareSwap] at hsort
  simp only [Prod.mk.injEq] at hsort
  obtain ⟨rfl, rfl, rfl⟩ := hsort
  have h01 := compareSwap_x v0 v1
  have h12 := compareSwap_x (compareSwap v0 v1).2 v2
  have h01' := compareSwap_x (compareSwap v0 v1).1 (compareSwap (compareSwap v0 v1).2 v2).1
  omega

/-- Sorting keeps what holds of every vertex. -/
theorem sort3_forall {P : Vertex → Prop} {v0 v1 v2 : Vertex} (h : ∀ v ∈ [v0, v1, v2], P v) :
    P (sort3 v0 v1 v2).1 ∧ P (sort3 v0 v1 v2).2.1 ∧ P (sort3 v0 v1 v2).2.2 := by
  have hperm := (stablePerm_sort3 v0 v1 v2).1
  exact ⟨h _ (hperm.mem_iff.1 (by simp)), h _ (hperm.mem_iff.1 (by simp)), h _ (hperm.mem_iff.1 (by simp))⟩

/-! ### The rows (R97, R99) -/

/-- The intercept of the long edge on row `y`. -/
def longX (a c : Vertex) (y : Int) : Int := edgeAt a.x (c.x - a.x) (c.y - a.y) (y - a.y)

/-- The intercept of the active short edge; row `b.y` is the lower edge's. -/
def shortX (a b c : Vertex) (y : Int) : Int :=
  if y < b.y then edgeAt a.x (b.x - a.x) (b.y - a.y) (y - a.y) else edgeAt b.x (c.x - b.x) (c.y - b.y) (y - b.y)

theorem fillRow_eq (a b c : Vertex) (col : Color) (y : Int) :
    fillRow a b c col y =
      if longX a c y > shortX a b c y then span (shortX a b c y) (longX a c y) y col
      else span (longX a c y) (shortX a b c y) y col := rfl

/-- The points of a triangle with sorted vertices whose x lie between `lo` and `hi`. -/
abbrev InTriangle (a b c : Vertex) (lo hi x y : Int) : Prop :=
  a.y ≤ y ∧ y ≤ c.y ∧
    if a.y = c.y then lo ≤ x ∧ x ≤ hi
    else min (longX a c y) (shortX a b c y) ≤ x ∧ x ≤ max (longX a c y) (shortX a b c y)

theorem mem_fillRow_iff {a b c : Vertex} {col : Color} {y : Int} {p : Pixel} :
    p ∈ fillRow a b c col y ↔
      (min (longX a c y) (shortX a b c y) ≤ p.x ∧ p.x ≤ max (longX a c y) (shortX a b c y)) ∧ p.y = y ∧ p.c = col := by
  rw [fillRow_eq]
  by_cases hends : longX a c y > shortX a b c y
  · rw [if_pos hends, mem_span_iff, min_eq_right (by omega), max_eq_left (by omega)]
  · rw [if_neg hends, mem_span_iff, min_eq_left (by omega), max_eq_right (by omega)]

theorem mem_fillSorted_iff {a b c : Vertex} {col : Color} {p : Pixel} :
    p ∈ fillSorted a b c col ↔
      InTriangle a b c (min a.x (min b.x c.x)) (max a.x (max b.x c.x)) p.x p.y ∧ p.c = col := by
  unfold fillSorted InTriangle
  split
  · next hflat =>
    rw [mem_span_iff, ← and_assoc]
    exact and_congr_left' (by omega)
  · simp only [List.mem_flatMap, mem_rows_iff, mem_fillRow_iff]
    constructor
    · rintro ⟨y, ⟨hlo, hhi⟩, hx, rfl, hc⟩
      exact ⟨⟨hlo, hhi, hx⟩, hc⟩
    · rintro ⟨⟨hlo, hhi, hx⟩, hc⟩
      exact ⟨p.y, ⟨hlo, hhi⟩, hx, rfl, hc⟩


/-- Settles O45: the sorted vertices' rows; sorting keeps the bounds of x. -/
theorem filledTriangleRows : Obligations.FilledTriangleRows := fun s x0 y0 x1 y1 x2 y2 col a b c hlive hsort => by
  obtain ⟨hmin, hmax⟩ := sort3_bounds_x hsort
  have hpixels : triFilled x0 y0 x1 y1 x2 y2 col = fillSorted a b c col := by rw [triFilled, hsort]
  have hmem (p : Pixel) := mem_fillSorted_iff (a := a) (b := b) (c := c) (col := col) (p := p)
  rw [hmin, hmax] at hmem
  exact draws_figure hlive (P := InTriangle a b c (min x0 (min x1 x2)) (max x0 (max x1 x2))) (hpixels ▸ hmem)

/-! ### The rows of TRI_GRAD (R100) -/

/-- The colour of the long edge on row `y`. -/
def longK (a c : Vertex) (y : Int) : Color := edgeColorAt a.k c.k (c.y - a.y) (y - a.y)

/-- The colour of the active short edge. -/
def shortK (a b c : Vertex) (y : Int) : Color :=
  if y < b.y then edgeColorAt a.k b.k (b.y - a.y) (y - a.y) else edgeColorAt b.k c.k (c.y - b.y) (y - b.y)

theorem gradTriRow_eq (a b c : Vertex) (y : Int) :
    gradTriRow a b c y =
      if longX a c y > shortX a b c y then
        gradRow (shortX a b c y) y (longX a c y - shortX a b c y + 1) (shortK a b c y) (longK a c y)
      else gradRow (longX a c y) y (shortX a b c y - longX a c y + 1) (longK a c y) (shortK a b c y) := rfl

/-- The colour of point (x, y) of a gradient triangle with sorted vertices whose x lie between `lo` and `hi`. -/
def triangleColor (a b c : Vertex) (lo hi x y : Int) : Color :=
  if a.y = c.y then
    gradColor (hi - lo + 1) (x - lo) (if a.x = lo then a.k else if b.x = lo then b.k else c.k)
      (if a.x = hi then a.k else if b.x = hi then b.k else c.k)
  else if longX a c y ≤ shortX a b c y then
    gradColor (shortX a b c y - longX a c y + 1) (x - longX a c y) (longK a c y) (shortK a b c y)
  else gradColor (longX a c y - shortX a b c y + 1) (x - shortX a b c y) (shortK a b c y) (longK a c y)

theorem firstWithX_k (a b c : Vertex) (x : Int) :
    (firstWithX a b c x).k = if a.x = x then a.k else if b.x = x then b.k else c.k := by
  unfold firstWithX
  split_ifs <;> rfl

theorem firstWithX_x {a b c : Vertex} {x : Int} (h : x = a.x ∨ x = b.x ∨ x = c.x) : (firstWithX a b c x).x = x := by
  unfold firstWithX
  split_ifs <;> omega

theorem mem_gradTriRow_iff {a b c : Vertex} {y : Int} {p : Pixel} (lo hi : Int) (hsloped : a.y ≠ c.y) :
    p ∈ gradTriRow a b c y ↔
      (min (longX a c y) (shortX a b c y) ≤ p.x ∧ p.x ≤ max (longX a c y) (shortX a b c y)) ∧ p.y = y ∧
        p.c = triangleColor a b c lo hi p.x y := by
  rw [gradTriRow_eq, triangleColor, if_neg hsloped, ← and_assoc]
  by_cases hends : longX a c y > shortX a b c y
  · rw [if_pos hends, if_neg (by omega), mem_gradRow_iff]
    exact and_congr_left' (by omega)
  · rw [if_neg hends, if_pos (by omega), mem_gradRow_iff]
    exact and_congr_left' (by omega)

theorem mem_gradSorted_iff {a b c : Vertex} {lo hi : Int} (hlo : lo = min a.x (min b.x c.x))
    (hhi : hi = max a.x (max b.x c.x)) {p : Pixel} :
    p ∈ gradSorted a b c ↔ InTriangle a b c lo hi p.x p.y ∧ p.c = triangleColor a b c lo hi p.x p.y := by
  unfold gradSorted InTriangle
  by_cases hflat : a.y = c.y
  · simp only [if_pos hflat, triangleColor, ← hlo, ← hhi]
    rw [firstWithX_x (by omega), firstWithX_x (by omega), firstWithX_k, firstWithX_k, mem_gradRow_iff]
    exact and_congr_left' (by omega)
  · simp only [if_neg hflat, List.mem_flatMap, mem_rows_iff, mem_gradTriRow_iff lo hi hflat]
    constructor
    · rintro ⟨y, ⟨hay, hyc⟩, hx, rfl, hc⟩
      exact ⟨⟨hay, hyc, hx⟩, hc⟩
    · rintro ⟨⟨hay, hyc, hx⟩, hc⟩
      exact ⟨p.y, ⟨hay, hyc⟩, hx, rfl, hc⟩

/-- A choice between two figures on the rows of a triangle, either way round: the rows first, or the figure's cells. -/
theorem ite_rows_ite {α : Type} {below above flat inFlat inSloped : Prop} [Decidable below] [Decidable above]
    [Decidable flat] [Decidable inFlat] [Decidable inSloped] (u v z : α) :
    (if below ∧ above ∧ (if flat then inFlat else inSloped) then (if flat then u else v) else z) =
      if below ∧ above then (if flat then (if inFlat then u else z) else if inSloped then v else z) else z := by
  by_cases hrows : below ∧ above <;> by_cases hflat : flat
  · simp [hrows, hflat]
  · simp [hrows, hflat]
  · simp [← and_assoc, hrows]
  · simp [← and_assoc, hrows]

/-- Settles O46: the sorted vertices' rows, each point with the colour its row gives it. -/
theorem gradientTriangleRows : Obligations.GradientTriangleRows := by
  intro s x0 y0 x1 y1 x2 y2 k0 k1 k2 a b c hlive hsort
  obtain ⟨hmin, hmax⟩ := sort3_bounds_x hsort
  have hpixels : triGradient x0 y0 x1 y1 x2 y2 k0 k1 k2 = gradSorted a b c := by rw [triGradient, hsort]
  have hdraws : Draws s (exec (.triGrad x0 y0 x1 y1 x2 y2 k0 k1 k2) s) _ :=
    draws_coloredFigure hlive (P := InTriangle a b c (min x0 (min x1 x2)) (max x0 (max x1 x2)))
      (hpixels ▸ fun p => mem_gradSorted_iff hmin.symm hmax.symm)
  refine hdraws.congr fun px py => ?_
  exact ite_rows_ite _ _ _

/-! ### One colour at all three vertices (R100) -/

theorem edgeColorAt_same (k : Color) (h j : Int) : edgeColorAt k k h j = k := by
  have flat (v : Int) : edgeAt v (v - v) h j = v := by simp [edgeAt]
  simp only [edgeColorAt, flat, BitVec.ofInt_natCast, BitVec.ofNat_toNat, BitVec.setWidth_eq, pack565_channels]

/-- A gradient row of one colour is the span of its cells. -/
theorem gradRow_same (x y w : Int) (k : Color) : gradRow x y w k k = span x (x + w - 1) y k := by
  have hwidth : x + w - 1 - x + 1 = w := by ring
  simp only [gradRow_eq, gradColor_eq_edgeColorAt, edgeColorAt_same, span_eq, hwidth]

theorem gradSorted_same {a b c : Vertex} {k : Color} (ha : a.k = k) (hb : b.k = k) (hc : c.k = k) :
    gradSorted a b c = fillSorted a b c k := by
  have hlongK (y : Int) : longK a c y = k := by rw [longK, ha, hc, edgeColorAt_same]
  have hshortK (y : Int) : shortK a b c y = k := by rw [shortK, ha, hb, hc, edgeColorAt_same, edgeColorAt_same, ite_self]
  have hrow : gradTriRow a b c = fillRow a b c k := by
    funext y
    rw [gradTriRow_eq, fillRow_eq, hlongK, hshortK, gradRow_same, gradRow_same]
    congr 2 <;> ring
  have hfirst (x : Int) : (firstWithX a b c x).k = k := by rw [firstWithX_k, ha, hb, hc, ite_self, ite_self]
  unfold gradSorted fillSorted
  simp only [hrow, hfirst, gradRow_same]
  rw [firstWithX_x (by omega), firstWithX_x (by omega)]
  congr 2
  ring

/-- Settles O47: the two draw the same pixels. -/
theorem gradientOfOneColourIsTheFill : Obligations.GradientOfOneColourIsTheFill := fun s x0 y0 x1 y1 x2 y2 k => by
  obtain ⟨ha, hb, hc⟩ := sort3_forall (P := fun v => v.k = k) (v0 := ⟨x0, y0, k⟩) (v1 := ⟨x1, y1, k⟩) (v2 := ⟨x2, y2, k⟩)
    (by simp)
  exact congrArg s.draw (gradSorted_same ha hb hc)

end Sys2Proof.Laws
end

section
/-! PROOFS. The text commands (44_text.md R101 to R107): the cells of a glyph and of the placeholder, and a text drawn character
by character. -/

open Sys2Proof Sys2Proof.Machine

namespace Sys2Proof.Laws

/-! ### A glyph (R102, R104) -/

/-- The point lies in the box of `w` by `h` cells at (`left`, `top`). -/
abbrev InBox (left top : Int) (w h : Nat) (x y : Int) : Prop := 0 ≤ x - left ∧ x - left < w ∧ 0 ≤ y - top ∧ y - top < h

theorem mem_box_iff {left top : Int} {w h : Nat} {c : Color} {p : Pixel} :
    p ∈ box left top w h c ↔ InBox left top w h p.x p.y ∧ p.c = c := by
  obtain ⟨px, py, pc⟩ := p
  simp only [box, List.mem_flatMap, List.mem_map, List.mem_range, Pixel.mk.injEq]
  constructor
  · rintro ⟨j, hj, i, hi, rfl, rfl, rfl⟩
    exact ⟨by omega, rfl⟩
  · rintro ⟨hin, rfl⟩
    exact ⟨(py - top).toNat, by omega, (px - left).toNat, by omega, by omega, by omega, rfl⟩

/-- The set bits of a glyph, in the glyph's place. -/
def glyphForeground (f : Font) (e : Glyph) (left top : Int) (fg : Color) : List Pixel :=
  ((List.range (e.boxW.toNat * e.boxH.toNat)).filter (fun k => Font.glyphBit f e k)).map (fun k =>
    ⟨left + ((k % e.boxW.toNat : Nat) : Int), top + ((k / e.boxW.toNat : Nat) : Int), fg⟩)

/-- The bit of a glyph at a point, row by row from the top left. -/
def glyphBitAt (f : Font) (e : Glyph) (left top x y : Int) : Bool :=
  Font.glyphBit f e ((y - top).toNat * e.boxW.toNat + (x - left).toNat)

theorem mem_glyphForeground_iff {f : Font} {e : Glyph} {left top : Int} {fg : Color} {p : Pixel} :
    p ∈ glyphForeground f e left top fg ↔
      (InBox left top e.boxW.toNat e.boxH.toNat p.x p.y ∧ glyphBitAt f e left top p.x p.y = true) ∧ p.c = fg := by
  obtain ⟨px, py, pc⟩ := p
  simp only [glyphForeground, glyphBitAt, List.mem_map, List.mem_filter, List.mem_range, Pixel.mk.injEq]
  constructor
  · rintro ⟨k, ⟨hk, hbit⟩, rfl, rfl, rfl⟩
    have hw : 0 < e.boxW.toNat := Nat.pos_of_ne_zero fun h0 => by simp [h0] at hk
    have hcol : k % e.boxW.toNat < e.boxW.toNat := Nat.mod_lt k hw
    have hrow : k / e.boxW.toNat < e.boxH.toNat := Nat.div_lt_of_lt_mul hk
    have hindex : k / e.boxW.toNat * e.boxW.toNat + k % e.boxW.toNat = k := Nat.div_add_mod' k _
    generalize k % e.boxW.toNat = i at hcol hindex ⊢
    generalize k / e.boxW.toNat = j at hrow hindex ⊢
    have hplace : (top + (j : Int) - top).toNat * e.boxW.toNat + (left + (i : Int) - left).toNat = k := by
      rw [add_sub_cancel_left, add_sub_cancel_left, Int.toNat_natCast, Int.toNat_natCast, hindex]
    exact ⟨⟨by omega, by rwa [hplace]⟩, rfl⟩
  · rintro ⟨⟨hin, hbit⟩, rfl⟩
    have hcol : (px - left).toNat < e.boxW.toNat := by omega
    refine ⟨_, ⟨?_, hbit⟩, ?_, ?_, rfl⟩
    · exact cellIndex_lt hcol (by omega)
    · rw [Nat.mul_comm, Nat.mul_add_mod, Nat.mod_eq_of_lt hcol]
      omega
    · rw [Nat.mul_comm, Nat.mul_add_div (by omega), Nat.div_eq_of_lt hcol]
      omega

theorem glyphPixels_eq (p : Params) (f : Font) (e : Glyph) (x y : Int) (fg bg : Color) (opq : Bool) :
    glyphPixels p f e x y fg bg opq =
      (if opq && decide (bg ≠ p.transparent) then
        box (x + e.ofsX.toInt) (y - (e.boxH.toNat : Int) - e.ofsY.toInt) e.boxW.toNat e.boxH.toNat bg else [])
      ++ glyphForeground f e (x + e.ofsX.toInt) (y - (e.boxH.toNat : Int) - e.ofsY.toInt) fg := rfl

/-- A point of a glyph's box gets the foreground on a set bit, else the background where the box is filled. -/
theorem colorAt_glyphPixels (p : Params) (f : Font) (e : Glyph) (x y : Int) (fg bg : Color) (opq : Bool) (u v : Int)
    {left top : Int} (hleft : left = x + e.ofsX.toInt) (htop : top = y - (e.boxH.toNat : Int) - e.ofsY.toInt) :
    colorAt (glyphPixels p f e x y fg bg opq) u v =
      if InBox left top e.boxW.toNat e.boxH.toNat u v then
        if glyphBitAt f e left top u v = true then some fg
        else if opq = true ∧ bg ≠ p.transparent then some bg else none
      else none := by
  have hbox : colorAt (box left top e.boxW.toNat e.boxH.toNat bg) u v =
      if InBox left top e.boxW.toNat e.boxH.toNat u v then some bg else none :=
    colorAt_of_mem_iff (g := fun _ _ => bg) (P := InBox left top e.boxW.toNat e.boxH.toNat) (fun _ => mem_box_iff) u v
  have hfg : colorAt (glyphForeground f e left top fg) u v =
      if InBox left top e.boxW.toNat e.boxH.toNat u v ∧ glyphBitAt f e left top u v = true then some fg else none :=
    colorAt_of_mem_iff (g := fun _ _ => fg) (P := fun u v =>
      InBox left top e.boxW.toNat e.boxH.toNat u v ∧ glyphBitAt f e left top u v = true)
      (fun _ => mem_glyphForeground_iff) u v
  have hbg : colorAt (if opq && decide (bg ≠ p.transparent) then box left top e.boxW.toNat e.boxH.toNat bg else []) u v =
      if InBox left top e.boxW.toNat e.boxH.toNat u v ∧ opq = true ∧ bg ≠ p.transparent then some bg else none := by
    by_cases hopaque : opq = true ∧ bg ≠ p.transparent
    · rw [if_pos (by simpa using hopaque), hbox]
      exact if_congr (and_iff_left hopaque).symm rfl rfl
    · rw [if_neg (by simpa using hopaque), if_neg (fun h => hopaque h.2)]
      rfl
  rw [glyphPixels_eq, ← hleft, ← htop, colorAt_append, hfg, hbg]
  by_cases hin : InBox left top e.boxW.toNat e.boxH.toNat u v
  · by_cases hbit : glyphBitAt f e left top u v = true
    · rw [if_pos ⟨hin, hbit⟩, if_pos hin, if_pos hbit, Option.some_or]
    · rw [if_neg (fun h => hbit h.2), if_pos hin, if_neg hbit, Option.none_or]
      exact if_congr (and_iff_right hin) rfl rfl
  · rw [if_neg (fun h => hin h.1), if_neg (fun h => hin h.1), if_neg hin, Option.or_none]

/-! ### CHAR (R105) -/

theorem getD_ite {α : Type} (q : Prop) [Decidable q] (o o' : Option α) (a : α) :
    (if q then o else o').getD a = if q then o.getD a else o'.getD a := apply_ite (fun o => Option.getD o a) q o o'

theorem exec_char_live {s : State} (hlive : s.bufValid = true) (x y : Int) (code : Nat) (fg bg : Color) :
    exec (.char x y code fg bg) s =
      .next ((s.plot (drawGlyph s.params s.font code x y fg bg s.opaqueS).1).completeRes0
        (BitVec.ofNat 32 (drawGlyph s.params s.font code x y fg bg s.opaqueS).2)) := if_pos hlive

theorem supported_iff (code : Nat) : supported code = true ↔ 32 ≤ code ∧ code ≤ 126 := by simp [supported]

theorem drawGlyph_supported {p : Params} {f : Font} {code : Nat} {e : Glyph} (hlo : 32 ≤ code) (hhi : code ≤ 126)
    (he : f.glyphs.toList[code - 31]? = some e) (x y : Int) (fg bg : Color) (opq : Bool) :
    drawGlyph p f code x y fg bg opq = (glyphPixels p f e x y fg bg opq, e.advW.toNat / 16) := by
  have hentry : Font.entry f code = e := by rw [Font.entry, List.getD_eq_getElem?_getD, he, Option.getD_some]
  rw [drawGlyph, if_pos ((supported_iff code).2 ⟨hlo, hhi⟩), hentry, Glyph.advance]

theorem drawGlyph_unsupported {p : Params} {f : Font} {code : Nat} (hcode : code < 32 ∨ 126 < code) (x y : Int)
    (fg bg : Color) (opq : Bool) :
    drawGlyph p f code x y fg bg opq = (placeholderPixels p x y fg bg, p.phAdvance.toNat) :=
  if_neg fun h => by have := (supported_iff code).1 h; omega

/-- Settles O48: the glyph of the code's entry, its set bits over its box. -/
theorem charDrawsItsGlyph : Obligations.CharDrawsItsGlyph := fun s x y code fg bg e hlive hlo hhi he => by
  refine ⟨fun k b hb => by rw [Font.glyphBit, Font.byte, hb, Option.getD_some], ?_⟩
  rw [exec_char_live hlive, drawGlyph_supported hlo hhi he]
  refine ⟨_, rfl, drawnAs_plot (s.completeRes0 (BitVec.ofNat 32 (e.advW.toNat / 16))) _ fun px py _ _ => ?_⟩
  rw [colorAt_glyphPixels s.params s.font e x y fg bg s.opaqueS px py rfl rfl]
  simp only [getD_ite, Option.getD_some, Option.getD_none]
  rfl

/-! ### The placeholder (R103) -/

/-- The bit of the placeholder at a point, row by row from the top left. -/
def placeholderBit (p : Params) (left top x y : Int) : Bool :=
  (p.placeholder.toList.getD (y - top).toNat 0).getMsbD (x - left).toNat

/-- The colour of a point of the placeholder's box that is drawn. -/
def placeholderColor (p : Params) (fg bg : Color) (left top x y : Int) : Color :=
  if placeholderBit p left top x y then fg else bg

theorem mem_placeholderPixels_iff {p : Params} {x y : Int} {fg bg : Color} {q : Pixel} :
    q ∈ placeholderPixels p x y fg bg ↔
      (InBox (x + 1) (y - 16) 12 16 q.x q.y ∧ (placeholderBit p (x + 1) (y - 16) q.x q.y = true ∨ bg ≠ p.transparent)) ∧
        q.c = placeholderColor p fg bg (x + 1) (y - 16) q.x q.y := by
  have mem_cell (row : BitVec 12) (i j : Nat) : q ∈ placeholderCell p x y fg bg row i j ↔
      (q.x = x + 1 + i ∧ q.y = y - 16 + j) ∧ (row.getMsbD i = true ∨ bg ≠ p.transparent) ∧
        q.c = if row.getMsbD i then fg else bg := by
    obtain ⟨qx, qy, qc⟩ := q
    unfold placeholderCell
    by_cases hbit : row.getMsbD i = true
    · simp [hbit, and_assoc]
    · by_cases hbg : bg = p.transparent
      · simp [hbit, hbg]
      · simp [hbit, hbg, and_assoc]
  simp only [placeholderPixels, List.mem_flatMap, List.mem_range, mem_cell, placeholderColor]
  constructor
  · rintro ⟨j, hj, i, hi, ⟨hx, hy⟩, hdrawn, hc⟩
    have hcol : (q.x - (x + 1)).toNat = i := by omega
    have hrow : (q.y - (y - 16)).toNat = j := by omega
    have hbit : placeholderBit p (x + 1) (y - 16) q.x q.y = (p.placeholder.toList.getD j 0).getMsbD i := by
      rw [placeholderBit, hcol, hrow]
    rw [hbit]
    exact ⟨⟨by omega, hdrawn⟩, hc⟩
  · rintro ⟨⟨hin, hdrawn⟩, hc⟩
    exact ⟨(q.y - (y - 16)).toNat, by omega, (q.x - (x + 1)).toNat, by omega, ⟨by omega, by omega⟩, hdrawn, hc⟩

/-- Settles O49: the placeholder's cells, each drawn once or not at all. -/
theorem charDrawsThePlaceholder : Obligations.CharDrawsThePlaceholder := fun s x y code fg bg hlive hcode => by
  rw [exec_char_live hlive, drawGlyph_unsupported hcode, BitVec.ofNat_toNat]
  refine ⟨_, rfl, drawnAs_plot (s.completeRes0 (s.params.phAdvance.setWidth 32)) _ fun px py _ _ => ?_⟩
  rw [colorAt_of_mem_iff (g := placeholderColor s.params fg bg (x + 1) (y - 16)) (P := fun u v =>
    InBox (x + 1) (y - 16) 12 16 u v ∧ (placeholderBit s.params (x + 1) (y - 16) u v = true ∨ bg ≠ s.params.transparent))
    (fun _ => mem_placeholderPixels_iff) px py]
  rw [getD_ite, Option.getD_some, Option.getD_none]
  by_cases hin : InBox (x + 1) (y - 16) 12 16 px py
  · refine (if_pos hin).trans (Eq.trans ?_ (if_congr (and_iff_right hin) rfl rfl).symm)
    by_cases hbit : placeholderBit s.params (x + 1) (y - 16) px py = true
    · exact (if_pos hbit).trans ((if_pos (Or.inl hbit)).trans (if_pos hbit)).symm
    · rw [placeholderColor, if_neg hbit]
      exact (if_neg hbit).trans (if_congr (or_iff_right hbit) rfl rfl).symm
  · exact (if_neg hin).trans (if_neg fun h => hin h.1).symm

/-! ### TEXT (R106) -/

/-- The text of two strings is the first one, and the second from the pen the first leaves. -/
theorem drawText_append (p : Params) (f : Font) (x0 : Int) (fg bg : Color) (opq : Bool) (cs ds : List Byte) (px py : Int) :
    drawText p f x0 fg bg opq (cs ++ ds) px py =
      ((drawText p f x0 fg bg opq cs px py).1 ++
          (drawText p f x0 fg bg opq ds (drawText p f x0 fg bg opq cs px py).2.1
            (drawText p f x0 fg bg opq cs px py).2.2).1,
        (drawText p f x0 fg bg opq ds (drawText p f x0 fg bg opq cs px py).2.1
          (drawText p f x0 fg bg opq cs px py).2.2).2) := by
  induction cs generalizing px py with
  | nil => rfl
  | cons ch cs ih =>
    simp only [List.cons_append, drawText]
    split_ifs
    · exact ih _ _
    · exact ih _ _
    · rw [ih, List.append_assoc]

/-- What the first `k` characters of a string draw, and the pen after them. -/
def textUpTo (s : State) (x y : Int) (off : Nat) (fg bg : Color) (k : Nat) : List Pixel × Int × Int :=
  drawText s.params s.font x fg bg s.opaqueS (s.pramString off k) x y

theorem pramString_succ (s : State) (off k : Nat) : s.pramString off (k + 1) = s.pramString off k ++ [s.pram8 (off + k)] := by
  rw [State.pramString, List.range_succ, List.map_append]
  rfl

/-- One more character is drawn at the pen the ones before it leave. -/
theorem textUpTo_succ (s : State) (x y : Int) (off : Nat) (fg bg : Color) (k : Nat) :
    textUpTo s x y off fg bg (k + 1) =
      let last := drawText s.params s.font x fg bg s.opaqueS [s.pram8 (off + k)] (textUpTo s x y off fg bg k).2.1
        (textUpTo s x y off fg bg k).2.2
      ((textUpTo s x y off fg bg k).1 ++ last.1, last.2) := by
  rw [textUpTo, pramString_succ, drawText_append]
  rfl

theorem drawText_newline (p : Params) (f : Font) (x0 : Int) (fg bg : Color) (opq : Bool) (px py : Int) :
    drawText p f x0 fg bg opq [10] px py = ([], x0, py + (f.lineHeight.toNat : Int) + (p.lineGap : Int)) := rfl

theorem drawText_return (p : Params) (f : Font) (x0 : Int) (fg bg : Color) (opq : Bool) (px py : Int) :
    drawText p f x0 fg bg opq [13] px py = ([], x0, py) := rfl

theorem drawText_glyph {ch : Byte} (hnl : ch ≠ 10) (hcr : ch ≠ 13) (p : Params) (f : Font) (x0 : Int) (fg bg : Color)
    (opq : Bool) (px py : Int) :
    drawText p f x0 fg bg opq [ch] px py =
      ((drawGlyph p f ch.toNat px py fg bg opq).1, px + ((drawGlyph p f ch.toNat px py fg bg opq).2 : Int), py) := by
  simp only [drawText, if_neg hnl, if_neg hcr, List.append_nil]

theorem drawGlyph_advance_lt (p : Params) (f : Font) (code : Nat) (x y : Int) (fg bg : Color) (opq : Bool) :
    (drawGlyph p f code x y fg bg opq).2 < 65536 := by
  unfold drawGlyph
  split
  · exact (Nat.div_le_self _ _).trans_lt (Font.entry f code).advW.isLt
  · exact p.phAdvance.isLt

/-- Drawing one list after another is drawing both. -/
theorem plot_append (s : State) (ps qs : List Pixel) : s.plot (ps ++ qs) = (s.plot ps).plot qs := by
  rw [State.plot, List.foldl_append]
  rfl

theorem exec_text_badString {s : State} {off len : Nat} (hlive : s.bufValid = true) (hbad : s.params.pramBytes < off + len)
    (x y : Int) (fg bg : Color) : exec (.text x y off len fg bg) s = .next (s.complete .arg) := by
  have hnot : inPram s.params off len = false := decide_eq_false (by omega)
  simp only [exec, execText, hlive, hnot, Bool.true_eq_false, Bool.false_eq_true, if_false]

theorem exec_text_live {s : State} {off len : Nat} (hlive : s.bufValid = true) (hin : off + len ≤ s.params.pramBytes)
    (x y : Int) (fg bg : Color) :
    exec (.text x y off len fg bg) s =
      .next ((s.plot (textUpTo s x y off fg bg len).1).completeRes01 (BitVec.ofInt 32 (textUpTo s x y off fg bg len).2.1)
        (BitVec.ofInt 32 (textUpTo s x y off fg bg len).2.2)) := by
  have hin : inPram s.params off len = true := decide_eq_true hin
  simp only [exec, execText, hlive, hin, Bool.true_eq_false, if_false, if_true]
  rfl

/-- Settles O50: pen and memory after `k` characters are those of the text's first `k` characters. -/
theorem textDrawsCharacterByCharacter : Obligations.TextDrawsCharacterByCharacter := by
  intro s x y off len fg bg hlive
  refine ⟨fun hbad => by rw [exec_text_badString hlive hbad, State.complete], fun hin => ?_⟩
  refine ⟨fun k => (textUpTo s x y off fg bg k).2, fun k => (s.plot (textUpTo s x y off fg bg k).1).mem,
    exec_text_live hlive hin x y fg bg, fun a ha => State.byteAt_plot s _ ha, rfl, rfl, fun k _ => ⟨?_, ?_, ?_⟩⟩
  · intro hnl
    simp only [textUpTo_succ, hnl, drawText_newline, List.append_nil]
    exact ⟨trivial, trivial⟩
  · intro hcr
    simp only [textUpTo_succ, hcr, drawText_return, List.append_nil]
    exact ⟨trivial, trivial⟩
  · intro hnl hcr
    refine ⟨_, drawGlyph_advance_lt s.params s.font (s.pram8 (off + k)).toNat (textUpTo s x y off fg bg k).2.1
      (textUpTo s x y off fg bg k).2.2 fg bg s.opaqueS, ?_, ?_⟩
    · simp only [textUpTo_succ, drawText_glyph hnl hcr, plot_append]
      exact exec_char_live (s := s.plot (textUpTo s x y off fg bg k).1) hlive _ _ _ fg bg
    · simp only [textUpTo_succ, drawText_glyph hnl hcr]

/-! ### TEXT_WIDTH (R107) -/

theorem exec_textWidth_badString {s : State} {off len : Nat} (hbad : s.params.pramBytes < off + len) :
    exec (.textWidth off len) s = .next (s.complete .arg) := if_neg (by simp only [inPram, decide_eq_true_eq]; omega)

theorem exec_textWidth {s : State} {off len : Nat} (hin : off + len ≤ s.params.pramBytes) :
    exec (.textWidth off len) s =
      .next (s.completeRes0 (BitVec.ofNat 32 ((s.pramString off len).map (widthOf s.font)).sum)) :=
  if_pos (decide_eq_true hin)

theorem widthOf_eq (f : Font) (ch : Byte) :
    widthOf f ch = if 32 ≤ ch.toNat ∧ ch.toNat ≤ 126 then (f.glyphs.toList.getD (ch.toNat - 31) default).advW.toNat / 16
      else 0 := by
  simp only [widthOf, supported_iff]
  rfl

/-- Settles O51: the widths of the string's characters, one by one. -/
theorem textWidthSumsTheAdvances : Obligations.TextWidthSumsTheAdvances := fun s off len => by
  refine ⟨fun hbad => by rw [exec_textWidth_badString hbad, State.complete], fun hin => ?_⟩
  rw [exec_textWidth hin, State.pramString, List.map_map, State.completeRes0]
  simp only [Function.comp_def, widthOf_eq]

end Sys2Proof.Laws
end

section
/-! PROOFS. The panel transport (45_transport.md R108 to R124; 60_exceptions.md R130): what a word leaves, the brightness, and
the sequences of the commands on a bus without faults, panel command by panel command. -/

open Sys2Proof Sys2Proof.Machine

namespace Sys2Proof.Laws

/-! ### Words (R45, R109, R130) -/

/-- Settles O60: bit `15 − k` of the word is bit `7 − k` of its high byte, and then of its low one. -/
theorem pixelWordGoesHighByteFirst : Obligations.PixelWordGoesHighByteFirst := fun h => by
  refine ⟨?_, fun _ => rfl⟩
  simp [mosiBits, List.range_succ, BitVec.getLsbD_extractLsb']

/-- The event of an action that shifts out a word. -/
inductive IsWord : Act → WireEvent → Prop
  | byte (b : Byte) : IsWord (.word8 b) (.w8 b)
  | pixel (h : Half) : IsWord (.word16 h) (.w16 h)

section
variable {a : Act} {e : WireEvent} (hw : IsWord a e) (isInit : Bool) (rest : List Act) {s : State}
include hw

theorem actRun_word (s : State) : Act.run s a = s.shiftWord e := by cases hw <;> rfl

theorem runActs_word_ok (h : s.nextOutcome = .ok) :
    runActs isInit (a :: rest) s = runActs isInit rest (State.emit { s with bus := s.bus.tail } e) := by
  simp only [runActs, actRun_word hw, State.shiftWord, h]

theorem runActs_word_fail (h : s.nextOutcome = .fail) :
    runActs isInit (a :: rest) s = State.busFail { s with bus := s.bus.tail } isInit := by
  simp only [runActs, actRun_word hw, State.shiftWord, h]

theorem runActs_word_stall (h : s.nextOutcome = .stall) :
    runActs isInit (a :: rest) s = State.busStall { s with bus := s.bus.tail } := by
  simp only [runActs, actRun_word hw, State.shiftWord, h]

end

theorem nextOutcome_of_head? {s : State} {o : BusOutcome} (h : s.bus.head? = some o) : s.nextOutcome = o := by
  rw [State.nextOutcome, List.headD_eq_head?_getD, h, Option.getD_some]

theorem nextOutcome_of_none {s : State} (h : s.bus.head? = none) : s.nextOutcome = .ok := by
  rw [State.nextOutcome, List.headD_eq_head?_getD, h, Option.getD_none]

/-- Settles O59, by the outcome the environment gives. -/
theorem busWordOutcomes : Obligations.BusWordOutcomes := fun isInit s a rest ha => by
  have hword : ∃ e, IsWord a e := by
    obtain ⟨b, rfl⟩ | ⟨h, rfl⟩ := ha
    · exact ⟨_, .byte b⟩
    · exact ⟨_, .pixel h⟩
  obtain ⟨e, hword⟩ := hword
  refine ⟨fun h => ?_, fun h => ?_, fun h => ?_⟩
  · have hok : s.nextOutcome = .ok := h.elim nextOutcome_of_none nextOutcome_of_head?
    exact ⟨fun b hb => hb ▸ runActs_word_ok (.byte b) isInit rest hok,
      fun v hv => hv ▸ runActs_word_ok (.pixel v) isInit rest hok⟩
  · exact ⟨_, _, runActs_word_fail hword isInit rest (nextOutcome_of_head? h)⟩
  · exact ⟨_, _, _, runActs_word_stall hword isInit rest (nextOutcome_of_head? h)⟩

/-! ### Brightness (R114, R122, R123) -/

theorem whenInit_of_init {s : State} (hinit : s.init = true) (p : Plan) : s.whenInit p = p := if_pos hinit

@[simp] theorem finish_drive (s : State) (isInit : Bool) (acts : List Act) :
    (Plan.drive isInit acts).finish s = runActs isInit acts s := rfl

theorem ofNat_ne_zero_iff {v : Nat} (hv : v < 65536) : BitVec.ofNat 16 v ≠ 0 ↔ v ≠ 0 := by
  rw [not_iff_not]
  constructor
  · intro h
    have := congrArg BitVec.toNat h
    rw [BitVec.toNat_ofNat, Nat.mod_eq_of_lt hv] at this
    exact this
  · rintro rfl
    rfl

theorem exec_pBright {s : State} {v : Nat} (hinit : s.init = true) (hv : v < 65536) :
    exec (.pBright v) s = .next
      { s with
        engine := .idle, err := .ok, blLevel := BitVec.ofNat 16 v, blEn := decide (v ≠ 0) && !s.asleep,
        wire := WireEvent.bl (decide (v ≠ 0) && !s.asleep) (BitVec.ofNat 16 v) :: s.wire } := by
  simp only [exec, execPBright, planBright, whenInit_of_init hinit, finish_drive, brightActs, ofNat_ne_zero_iff hv]
  rfl

/-- Settles O57: one backlight action, of the level or of the percentage's level. -/
theorem panelBrightness : Obligations.PanelBrightness := fun s v p hinit hv => by
  refine ⟨exec_pBright hinit hv, fun t ht => ?_, rfl⟩
  obtain rfl := Host.Outcome.next.inj ((exec_pBright hinit hv).symm.trans ht)
  have hlevel : (BitVec.ofNat 16 v).toNat = v := by rw [BitVec.toNat_ofNat, Nat.mod_eq_of_lt hv]
  simp [State.duty, hlevel]

/-! ### A panel command on a bus without faults (R111, R113) -/

/-- The bus narrow, its switch traced and counted (R111). -/
def narrowed (s : State) : State :=
  { s with
    bus16 := false, modeSwCnt := s.modeSwCnt + (if s.bus16 then 1 else 0),
    wire := (narrowing s.bus16).reverse ++ s.wire }

theorem actRun_ensure8 (s : State) : Act.run s .ensure8 = .done (narrowed s) := by
  cases hb : s.bus16
  · have hsame : narrowed s = s := by
      simp only [narrowed, hb, narrowing, Bool.false_eq_true, if_false, BitVec.ofNat_eq_ofNat, BitVec.add_zero,
        List.reverse_nil, List.nil_append]
      rw [← hb]
    rw [hsame]
    simp [Act.run, hb]
  · simp [Act.run, hb, narrowed, narrowing, State.switchWidth, State.emit, Pins.after]

/-- On a bus without faults a word is appended, and the bus stays without faults. -/
theorem nextOutcome_of_busOk {s : State} (hbus : s.BusOk) : s.nextOutcome = .ok := by
  cases h : s.bus.head? with
  | none => exact nextOutcome_of_none h
  | some o => rw [nextOutcome_of_head? h, hbus o (List.mem_of_head? h)]

theorem busOk_drop {s t : State} (hbus : s.BusOk) {n : Nat} (ht : t.bus = s.bus.drop n) : t.BusOk :=
  fun o ho => hbus o (List.mem_of_mem_drop (ht ▸ ho))

/-- The state after some bytes, the last level left on `MOSI` being that of bit 0 of the last byte, or of `before`. -/
def afterBytes (s : State) (before : Byte) (ps : List Byte) : State :=
  { s with
    bus := s.bus.drop ps.length, wire := (ps.map WireEvent.w8).reverse ++ s.wire,
    pins := { s.pins with sck := false, mosi := (ps.getLastD before).getLsbD 0 } }

theorem runActs_bytes (isInit : Bool) (rest : List Act) (ps : List Byte) {s : State} (hbus : s.BusOk) {before : Byte}
    (hsck : s.pins.sck = false) (hmosi : s.pins.mosi = before.getLsbD 0) :
    runActs isInit (ps.map Act.word8 ++ rest) s = runActs isInit rest (afterBytes s before ps) := by
  induction ps generalizing s before with
  | nil =>
    have hsame : afterBytes s before [] = s := by
      simp only [afterBytes, List.getLastD_nil, ← hmosi, ← hsck]
      rfl
    rw [hsame]
    rfl
  | cons b ps ih =>
    rw [List.map_cons, List.cons_append, runActs_word_ok (.byte b) isInit _ (nextOutcome_of_busOk hbus),
      ih (before := b) (busOk_drop (n := 1) hbus (by simp [State.emit])) rfl rfl]
    congr 1
    simp [afterBytes, State.emit, Pins.after, List.getLastD_cons, -List.getLastD_eq_getLast?]

/-- The state after a panel command: its events, its words taken, the pins back at their levels. -/
def afterPanelCmd (s : State) (op : Byte) (ps : List Byte) : State :=
  { s with
    bus16 := false, modeSwCnt := s.modeSwCnt + (if s.bus16 then 1 else 0), bus := s.bus.drop (1 + ps.length),
    wire := (narrowing s.bus16 ++ panelCmdEvents op ps).reverse ++ s.wire,
    pins := { s.pins with csN := true, dc := true, sck := false, mosi := (ps.getLastD op).getLsbD 0 } }

section
variable (isInit : Bool) (rest : List Act) (s : State)

theorem runActs_nil : runActs isInit [] s = s.complete .ok := rfl

theorem runActs_ensure8 : runActs isInit (.ensure8 :: rest) s = runActs isInit rest (narrowed s) := by
  simp only [runActs, actRun_ensure8]

theorem runActs_cs (v : Bool) : runActs isInit (.cs v :: rest) s = runActs isInit rest (s.emit (.cs v)) := rfl

theorem runActs_dc (v : Bool) : runActs isInit (.dc v :: rest) s = runActs isInit rest (s.emit (.dc v)) := rfl

theorem runActs_rst (v : Bool) : runActs isInit (.rst v :: rest) s = runActs isInit rest (s.emit (.rst v)) := rfl

theorem runActs_wait (ms : Nat) : runActs isInit (.wait ms :: rest) s = runActs isInit rest (s.emit (.wait ms)) := rfl

theorem runActs_phase (p : InitPhase) :
    runActs isInit (.phase p :: rest) s = runActs isInit rest { s with initPhase := p } := rfl

theorem runActs_sckDiv (d : Half) :
    runActs isInit (.sckDiv d :: rest) s = runActs isInit rest { s with sckDiv := d } := rfl

theorem runActs_backlight (en : Bool) (level : Half) :
    runActs isInit (.backlight en level :: rest) s =
      runActs isInit rest { s.emit (.bl en level) with blEn := en, blLevel := level } := rfl

theorem runActs_orient (p : Bool) :
    runActs isInit (.orient p :: rest) s =
      runActs isInit rest
        { s with portrait := p, panelW := panelWidth s.params p, panelH := panelHeight s.params p } := rfl

theorem runActs_initDone :
    runActs isInit (.initDone :: rest) s =
      runActs isInit rest { s with init := true, asleep := false, initPhase := .none } := rfl

theorem runActs_deinitDone :
    runActs isInit (.deinitDone :: rest) s = runActs isInit rest { s with init := false, asleep := false } := rfl

theorem runActs_asleep (v : Bool) :
    runActs isInit (.asleep v :: rest) s = runActs isInit rest { s with asleep := v } := rfl

end

theorem runActs_panelCmd (isInit : Bool) (op : Byte) (ps : List Byte) (rest : List Act) {s : State} (hbus : s.BusOk) :
    runActs isInit (panelCmd op ps ++ rest) s = runActs isInit rest (afterPanelCmd s op ps) := by
  have hok : (((narrowed s).emit (.dc false)).emit (.cs false)).nextOutcome = .ok := nextOutcome_of_busOk hbus
  simp only [panelCmd, List.append_assoc, List.cons_append, List.nil_append, runActs_ensure8, runActs_dc, runActs_cs]
  rw [runActs_word_ok (.byte op) isInit _ hok, runActs_dc, runActs_bytes isInit _ ps (before := op) ?_ rfl rfl, runActs_cs]
  · refine congrArg (runActs isInit rest) ?_
    simp [afterBytes, afterPanelCmd, State.emit, Pins.after, narrowed, panelCmdEvents, Nat.add_comm 1]
  · exact busOk_drop (n := 1) hbus List.drop_one.symm

theorem busOk_afterPanelCmd {s : State} (hbus : s.BusOk) (op : Byte) (ps : List Byte) : (afterPanelCmd s op ps).BusOk :=
  busOk_drop hbus rfl

/-! ### P_DEINIT, P_ORIENT, P_SLEEP, P_WAKE (R115, R118 to R121) -/

/-- Display off and sleep in, with its delay (R118, R120). -/
theorem runActs_sleepIn (isInit : Bool) (rest : List Act) {s : State} (hbus : s.BusOk) :
    runActs isInit (sleepInActs s.params ++ rest) s =
      runActs isInit rest
        ((afterPanelCmd (afterPanelCmd s s.params.opDispoff []) s.params.opSlpin []).emit (.wait s.params.tSlpin)) := by
  simp only [sleepInActs, List.append_assoc]
  rw [runActs_panelCmd _ _ _ _ hbus, runActs_panelCmd _ _ _ _ (busOk_afterPanelCmd hbus _ _)]
  rfl

theorem exec_pDeinit_noop {s : State} (hinit : s.init = false) : exec .pDeinit s = .next (s.complete .ok) := by
  simp only [exec, execPDeinit, planDeinit, hinit, Bool.false_eq_true, if_false, finish_stop]

theorem exec_pDeinit_asleep {s : State} (hinit : s.init = true) (hasleep : s.asleep = true) :
    exec .pDeinit s = .next (runActs false [.backlight false 0, .deinitDone] s) := by
  simp only [exec, execPDeinit, planDeinit, hinit, if_true, finish_drive, deinitActs, hasleep, List.nil_append]

theorem exec_pDeinit_awake {s : State} (hinit : s.init = true) (hasleep : s.asleep = false) :
    exec .pDeinit s = .next (runActs false (sleepInActs s.params ++ [.backlight false 0, .deinitDone]) s) := by
  simp only [exec, execPDeinit, planDeinit, hinit, if_true, finish_drive, deinitActs, hasleep, Bool.false_eq_true, if_false]

/-- Settles O54: asleep, the backlight alone; awake, the two panel commands before it. -/
theorem panelDeinit : Obligations.PanelDeinit := fun s => by
  refine ⟨fun hinit => by rw [exec_pDeinit_noop hinit, State.complete], fun hinit hasleep => ?_,
    fun hinit hasleep hbus => ?_⟩
  · rw [exec_pDeinit_asleep hinit hasleep]
    rfl
  · rw [exec_pDeinit_awake hinit hasleep, runActs_sleepIn _ _ hbus]
    simp [runActs_backlight, runActs_deinitDone, runActs_nil, afterPanelCmd, State.emit, State.complete, Pins.after,
      narrowing]

theorem exec_pOrient {s : State} (hinit : s.init = true) (p : Bool) :
    exec (.pOrient p) s = .next (runActs false (orientStep s.params p) s) := by
  simp only [exec, execPOrient, planOrient, whenInit_of_init hinit, finish_drive]

/-- The orientation and the panel's size, before MADCTL (R115). -/
def oriented (s : State) (p : Bool) : State :=
  { s with portrait := p, panelW := panelWidth s.params p, panelH := panelHeight s.params p }

theorem runActs_orientStep (isInit p : Bool) (rest : List Act) {s : State} (hbus : s.BusOk) :
    runActs isInit (orientStep s.params p ++ rest) s =
      runActs isInit rest (afterPanelCmd (oriented s p) s.params.opMadctl
        [if p then s.params.madctlPortrait else s.params.madctlLandscape]) := by
  rw [orientStep, List.cons_append, runActs_orient, runActs_panelCmd _ _ _ _ (by exact hbus)]
  rfl

/-- Settles O55: one panel command, after the orientation. -/
theorem panelOrient : Obligations.PanelOrient := fun s p hinit hbus => by
  have hrun := runActs_orientStep false p [] hbus
  rw [List.append_nil, runActs_nil] at hrun
  rw [exec_pOrient hinit, hrun]
  rfl

theorem exec_pSleep_noop {s : State} (hinit : s.init = true) (hasleep : s.asleep = true) :
    exec .pSleep s = .next (s.complete .ok) := by
  simp only [exec, execPSleep, planSleep, whenInit_of_init hinit, hasleep, if_true, finish_stop]

theorem exec_pSleep_awake {s : State} (hinit : s.init = true) (hasleep : s.asleep = false) :
    exec .pSleep s = .next (runActs false (sleepInActs s.params ++ [.backlight false s.blLevel, .asleep true]) s) := by
  simp only [exec, execPSleep, planSleep, whenInit_of_init hinit, hasleep, Bool.false_eq_true, if_false, finish_drive,
    sleepActs]

theorem exec_pWake_noop {s : State} (hinit : s.init = true) (hasleep : s.asleep = false) :
    exec .pWake s = .next (s.complete .ok) := by
  simp only [exec, execPWake, planWake, whenInit_of_init hinit, hasleep, Bool.false_eq_true, if_false, finish_stop]

theorem exec_pWake_asleep {s : State} (hinit : s.init = true) (hasleep : s.asleep = true) :
    exec .pWake s = .next (runActs false (wakeActs s.params s.blLevel) s) := by
  simp only [exec, execPWake, planWake, whenInit_of_init hinit, hasleep, if_true, finish_drive]

/-- P_WAKE's sequence, panel command by panel command (R121). -/
theorem runActs_wake (isInit : Bool) {s : State} (hbus : s.BusOk) (level : Half) :
    runActs isInit (wakeActs s.params level) s =
      runActs isInit [.backlight (decide (level ≠ 0)) level, .asleep false]
        (afterPanelCmd ((afterPanelCmd s s.params.opSlpout []).emit (.wait s.params.tSlpout)) s.params.opDispon []) := by
  simp only [wakeActs, List.append_assoc, List.cons_append, List.nil_append]
  rw [runActs_panelCmd _ _ _ _ hbus, runActs_wait, runActs_panelCmd _ _ _ _ (busOk_drop hbus rfl)]

/-- Settles O56: a no-op in the target state, else two panel commands and the backlight. -/
theorem panelSleepAndWake : Obligations.PanelSleepAndWake := fun s hinit => by
  refine ⟨fun hasleep => by rw [exec_pSleep_noop hinit hasleep, State.complete],
    fun hasleep => by rw [exec_pWake_noop hinit hasleep, State.complete], fun hasleep hbus => ?_, fun hasleep hbus => ?_⟩
  · rw [exec_pSleep_awake hinit hasleep, runActs_sleepIn _ _ hbus]
    simp [runActs_backlight, runActs_asleep, runActs_nil, afterPanelCmd, State.emit, State.complete, Pins.after, narrowing]
  · rw [exec_pWake_asleep hinit hasleep, runActs_wake _ hbus]
    simp [runActs_backlight, runActs_asleep, runActs_nil, afterPanelCmd, State.emit, State.complete, Pins.after, narrowing]

/-! ### P_INIT (R117) -/

theorem exec_pInit_noop {s : State} (hinit : s.init = true) (p : Bool) (d : Nat) :
    exec (.pInit p d) s = .next (s.complete .ok) := by
  simp only [exec, execPInit, planInit, hinit, if_true, finish_stop]

theorem exec_pInit {s : State} (hinit : s.init = false) (p : Bool) (d : Nat) :
    exec (.pInit p d) s = .next (runActs true (initActs s.params p (BitVec.ofNat 16 d)) s) := by
  simp only [exec, execPInit, planInit, hinit, Bool.false_eq_true, if_false, finish_drive]

/-- The bus wide, its switch traced and counted, from a narrow one (R112). -/
theorem runActs_ensure16 (isInit : Bool) (rest : List Act) {s : State} (hnarrow : s.bus16 = false) :
    runActs isInit (.ensure16 :: rest) s = runActs isInit rest (s.switchWidth true) := by
  simp only [runActs, Act.run, hnarrow, Bool.false_eq_true, if_false]

/-- P_INIT's beginning: the backlight, the narrow bus, and the pins with the reset pulse (R117). -/
def initReset (s : State) (d : Half) : State :=
  { s with
    initPhase := .reset, sckDiv := d, blEn := true, blLevel := s.params.blMax, bus16 := false,
    modeSwCnt := s.modeSwCnt + (if s.bus16 then 1 else 0), pins := { s.pins with csN := true, dc := true, rstN := true },
    wire := ([WireEvent.bl true s.params.blMax] ++ narrowing s.bus16
      ++ [WireEvent.cs true, WireEvent.dc true, WireEvent.rst true, WireEvent.rst false,
          WireEvent.wait s.params.tRstLow, WireEvent.rst true, WireEvent.wait s.params.tRstHigh]).reverse ++ s.wire }

theorem runActs_initReset (isInit : Bool) (rest : List Act) (s : State) (d : Half) :
    runActs isInit (.phase .reset :: .sckDiv d :: .backlight true s.params.blMax :: .ensure8 :: .cs true :: .dc true
        :: .rst true :: .rst false :: .wait s.params.tRstLow :: .rst true :: .wait s.params.tRstHigh :: rest) s =
      runActs isInit rest (initReset s d) := by
  simp only [runActs_phase, runActs_sckDiv, runActs_backlight, runActs_ensure8, runActs_cs, runActs_dc, runActs_rst,
    runActs_wait]
  refine congrArg (runActs isInit rest) ?_
  simp [initReset, narrowed, State.emit, Pins.after]
  rfl

/-- After the software reset and its delay. -/
def initCleared (s : State) : State :=
  { (afterPanelCmd s s.params.opSwreset []).emit (.wait s.params.tSwreset) with initPhase := .post }

/-- After the four commands that configure the panel. -/
def initConfigured (s : State) (p : Bool) : State :=
  afterPanelCmd
    (afterPanelCmd
      (afterPanelCmd (oriented (afterPanelCmd s s.params.opGamset s.params.gammaParams) p) s.params.opMadctl
        [if p then s.params.madctlPortrait else s.params.madctlLandscape])
      s.params.opColmod s.params.colmodParams)
    s.params.opFrmctr s.params.frmctrParams

/-- After sleep out, its delay and display on. -/
def initShown (s : State) : State :=
  afterPanelCmd ((afterPanelCmd s s.params.opSlpout []).emit (.wait s.params.tSlpout)) s.params.opDispon []

theorem runActs_initConfigured (isInit p : Bool) (rest : List Act) {s : State} (hbus : s.BusOk) :
    runActs isInit
        (panelCmd s.params.opGamset s.params.gammaParams ++ (orientStep s.params p ++
          (panelCmd s.params.opColmod s.params.colmodParams ++
            (panelCmd s.params.opFrmctr s.params.frmctrParams ++ rest)))) s =
      runActs isInit rest (initConfigured s p) := by
  have hgamma := busOk_afterPanelCmd hbus s.params.opGamset s.params.gammaParams
  have horient : (afterPanelCmd (oriented (afterPanelCmd s s.params.opGamset s.params.gammaParams) p) s.params.opMadctl
      [if p then s.params.madctlPortrait else s.params.madctlLandscape]).BusOk := busOk_drop hgamma rfl
  rw [runActs_panelCmd _ _ _ _ hbus]
  refine (runActs_orientStep isInit p _ hgamma).trans ?_
  refine (runActs_panelCmd _ _ _ _ horient).trans ?_
  exact runActs_panelCmd _ _ _ _ (busOk_afterPanelCmd horient _ _)

theorem runActs_initShown (isInit : Bool) (rest : List Act) {s : State} (hbus : s.BusOk) :
    runActs isInit
        (panelCmd s.params.opSlpout [] ++ (.wait s.params.tSlpout :: (panelCmd s.params.opDispon [] ++ rest))) s =
      runActs isInit rest (initShown s) := by
  rw [runActs_panelCmd _ _ _ _ hbus, runActs_wait, runActs_panelCmd _ _ _ _ (busOk_drop hbus rfl), initShown]

theorem initReset_params (s : State) (d : Half) : (initReset s d).params = s.params := rfl

theorem initCleared_params (s : State) : (initCleared s).params = s.params := rfl

theorem afterPanelCmd_params (s : State) (op : Byte) (ps : List Byte) : (afterPanelCmd s op ps).params = s.params := rfl

theorem oriented_params (s : State) (p : Bool) : (oriented s p).params = s.params := rfl

theorem initConfigured_params (s : State) (p : Bool) : (initConfigured s p).params = s.params := by
  simp only [initConfigured, afterPanelCmd_params, oriented_params]

theorem busOk_initReset {s : State} (hbus : s.BusOk) (d : Half) : (initReset s d).BusOk := hbus

theorem busOk_initCleared {s : State} (hbus : s.BusOk) : (initCleared s).BusOk := busOk_drop hbus rfl

theorem busOk_initConfigured {s : State} (hbus : s.BusOk) (p : Bool) : (initConfigured s p).BusOk := by
  have horient : (oriented (afterPanelCmd s s.params.opGamset s.params.gammaParams) p).BusOk := busOk_drop hbus rfl
  exact busOk_afterPanelCmd (busOk_afterPanelCmd (busOk_afterPanelCmd horient _ _) _ _) _ _

theorem runActs_init {s : State} (hbus : s.BusOk) (p : Bool) (d : Half) :
    runActs true (initActs s.params p d) s =
      runActs true [.backlight true s.params.blMax, .ensure16, .initDone]
        (initShown (initConfigured (initCleared (initReset s d)) p)) := by
  have hreset := busOk_initReset hbus d
  have hcleared := busOk_initCleared hreset
  simp only [initActs, List.append_assoc, List.cons_append, List.nil_append, runActs_initReset]
  rw [runActs_panelCmd _ _ _ _ hreset, runActs_wait, runActs_phase]
  calc _ = runActs true _ (initConfigured (initCleared (initReset s d)) p) := runActs_initConfigured true p _ hcleared
    _ = _ := by
      have hparams : (initConfigured (initCleared (initReset s d)) p).params = s.params := by
        rw [initConfigured_params, initCleared_params, initReset_params]
      have hrun := runActs_initShown true [.backlight true s.params.blMax, .ensure16, .initDone]
        (busOk_initConfigured hcleared p)
      rw [hparams] at hrun
      exact hrun

/-- MODESW_CNT after a switch to the narrow bus, where it was wide, and one to the wide bus (R112). -/
theorem counter_switched_twice (n : Word) (wide : Bool) :
    (n + if wide = true then 1#32 else 0#32) + 1#32 = n + if wide = true then 2#32 else 1#32 := by
  cases wide <;> simp [BitVec.add_assoc]

/-- Settles O53: a no-op where the panel is up, else the sequence's four parts and its end. -/
theorem panelInit : Obligations.PanelInit := fun s p d => by
  refine ⟨fun hinit => by rw [exec_pInit_noop hinit, State.complete], fun hinit hbus => ?_⟩
  rw [exec_pInit hinit, runActs_init hbus, runActs_backlight, runActs_ensure16 _ _ rfl, runActs_initDone, runActs_nil]
  simp [initShown, initConfigured, initCleared, initReset, oriented, afterPanelCmd, State.emit, State.switchWidth,
    State.complete, Pins.after, narrowing]
  exact ⟨rfl, rfl, counter_switched_twice _ _, by omega⟩

/-! ### P_DRAW (R124) -/

theorem exec_pDraw {s : State} (hinit : s.init = true) (x y : Nat) :
    exec (.pDraw x y) s = .next (Plan.finish s
      (if s.bufValid = false then .stop .noBuf else if s.bufW = 0 ∨ s.bufH = 0 then .stop .ok
        else .drive false (drawActs s.params x y s.bufW.toNat s.bufH.toNat s.cells))) := by
  simp only [exec, execPDraw, planDraw, whenInit_of_init hinit]

/-- A window bound on the bus: its high byte and its low one, whatever wraps (R45). -/
theorem bigEndian_ofNat (n : Nat) :
    bigEndian (BitVec.ofNat 16 n) = [BitVec.ofNat 8 (n % 65536 / 256), BitVec.ofNat 8 (n % 65536)] := by
  simp only [bigEndian, List.cons.injEq, and_true]
  constructor <;> apply BitVec.eq_of_toNat_eq <;> simp [Nat.shiftRight_eq_div_pow]

/-- The state after some pixels, the last level left on `MOSI` being that of bit 0 of the last one, or of `before`. -/
def afterPixels (s : State) (before : Half) (hs : List Half) : State :=
  { s with
    bus := s.bus.drop hs.length, wire := (hs.map WireEvent.w16).reverse ++ s.wire,
    pins := { s.pins with sck := false, mosi := (hs.getLastD before).getLsbD 0 } }

theorem runActs_pixels (isInit : Bool) (rest : List Act) (hs : List Half) {s : State} (hbus : s.BusOk) {before : Half}
    (hsck : s.pins.sck = false) (hmosi : s.pins.mosi = before.getLsbD 0) :
    runActs isInit (hs.map Act.word16 ++ rest) s = runActs isInit rest (afterPixels s before hs) := by
  induction hs generalizing s before with
  | nil =>
    have hsame : afterPixels s before [] = s := by
      simp only [afterPixels, List.getLastD_nil, ← hmosi, ← hsck]
      rfl
    rw [hsame]
    rfl
  | cons h hs ih =>
    rw [List.map_cons, List.cons_append, runActs_word_ok (.pixel h) isInit _ (nextOutcome_of_busOk hbus),
      ih (before := h) (busOk_drop (n := 1) hbus (by simp [State.emit])) rfl rfl]
    congr 1
    simp [afterPixels, State.emit, Pins.after, List.getLastD_cons, -List.getLastD_eq_getLast?]

/-- The state after RAMWR and its pixels in one burst, from a narrow bus. -/
def afterBurst (s : State) (op : Byte) (hs : List Half) : State :=
  { s with
    bus16 := true, modeSwCnt := s.modeSwCnt + 1, bus := s.bus.drop (1 + hs.length),
    pins := { s.pins with csN := true, dc := true, sck := false, mosi := (hs.getLastD 0).getLsbD 0 },
    wire := ([WireEvent.dc false, WireEvent.cs false, WireEvent.w8 op, WireEvent.dc true, WireEvent.width true]
      ++ hs.map WireEvent.w16 ++ [WireEvent.cs true]).reverse ++ s.wire }

theorem runActs_burst (isInit : Bool) {s : State} (hbus : s.BusOk) (hnarrow : s.bus16 = false) (op : Byte)
    {hs : List Half} (hne : hs ≠ []) :
    runActs isInit (.dc false :: .cs false :: .word8 op :: .dc true :: .ensure16 :: (hs.map Act.word16 ++ [.cs true])) s =
      (afterBurst s op hs).complete .ok := by
  have hok : ((s.emit (.dc false)).emit (.cs false)).nextOutcome = .ok := nextOutcome_of_busOk hbus
  rw [runActs_dc, runActs_cs, runActs_word_ok (.byte op) isInit _ hok, runActs_dc, runActs_ensure16 _ _ (by exact hnarrow),
    runActs_pixels isInit _ hs (before := op.setWidth 16) (busOk_drop (n := 1) hbus List.drop_one.symm) rfl
      (by simp [State.switchWidth, State.emit, Pins.after]), runActs_cs, runActs_nil]
  obtain ⟨h, hs, rfl⟩ := List.exists_cons_of_ne_nil hne
  refine congrArg (State.complete · .ok) ?_
  simp [afterPixels, afterBurst, State.switchWidth, State.emit, Pins.after, List.getLastD_cons, Nat.add_comm 1,
    -List.getLastD_eq_getLast?]

/-- P_DRAW's sequence: the window, then the burst (R124). -/
theorem runActs_draw (isInit : Bool) {s : State} (hbus : s.BusOk) (x y w h : Nat) {hs : List Half} (hne : hs ≠ []) :
    runActs isInit (drawActs s.params x y w h hs) s =
      (afterBurst
        (afterPanelCmd
          (afterPanelCmd (narrowed s) s.params.opCaset
            (bigEndian (BitVec.ofNat 16 x) ++ bigEndian (BitVec.ofNat 16 (x + w - 1))))
          s.params.opPaset (bigEndian (BitVec.ofNat 16 y) ++ bigEndian (BitVec.ofNat 16 (y + h - 1))))
        s.params.opRamwr hs).complete .ok := by
  have hnarrowed : (narrowed s).BusOk := hbus
  have hcaset := busOk_afterPanelCmd hnarrowed s.params.opCaset
    (bigEndian (BitVec.ofNat 16 x) ++ bigEndian (BitVec.ofNat 16 (x + w - 1)))
  simp only [drawActs, List.append_assoc, List.cons_append, List.nil_append, runActs_ensure8]
  rw [runActs_panelCmd _ _ _ _ hnarrowed, runActs_panelCmd _ _ _ _ hcaset]
  exact runActs_burst isInit (busOk_afterPanelCmd hcaset _ _) rfl s.params.opRamwr hne

theorem cells_getElem? {s : State} {k : Nat} (hk : k < s.bufW.toNat * s.bufH.toNat) : s.cells[k]? = some (s.cellAt k) := by
  rw [State.cells, List.getElem?_map, List.getElem?_range hk, Option.map_some]

theorem length_cells (s : State) : s.cells.length = s.bufW.toNat * s.bufH.toNat := by
  rw [State.cells, List.length_map, List.length_range]

theorem cells_ne_nil {s : State} (hw : s.bufW ≠ 0) (hh : s.bufH ≠ 0) : s.cells ≠ [] := by
  rw [← List.length_pos_iff, length_cells]
  exact Nat.mul_pos (by bv_omega) (by bv_omega)

/-- Settles O58: the failure, the no-op, and the sequence from the cells as they are. -/
theorem panelDraw : Obligations.PanelDraw := fun s x y hinit hx hy => by
  refine ⟨fun hbuf => ?_, fun hbuf hempty => ?_, fun hbuf hw hh hbus =>
    ⟨s.cells, length_cells s, fun k hk => cells_getElem? hk, ?_⟩⟩
  · rw [exec_pDraw hinit, if_pos hbuf, finish_stop, State.complete]
  · rw [exec_pDraw hinit, if_neg (by simp [hbuf]), if_pos hempty, finish_stop, State.complete]
  · rw [exec_pDraw hinit, if_neg (by simp [hbuf]), if_neg (not_or.2 ⟨hw, hh⟩), finish_drive,
      runActs_draw _ hbus _ _ _ _ (cells_ne_nil hw hh)]
    simp only [bigEndian_ofNat, Nat.mod_eq_of_lt hx, Nat.mod_eq_of_lt hy, ← length_cells]
    simp [afterBurst, afterPanelCmd, narrowed, State.complete, narrowing, panelCmdEvents]
    exact ⟨counter_switched_twice _ _, by omega⟩

end Sys2Proof.Laws
end
